-- ==== Sys2Proof/Word.lean ====
section
/-! DEFINITION. The types of the values that cross a boundary of the block: the operation word
(spec/30_encoding.md R59), a logical segment pattern (R54), a frequency in hertz (R57) and a digit
code (R53). Only types stand here. -/

namespace Sys2Proof

/-- An operation word: one 8-bit word, the only length there is (R59). -/
abbrev Word := BitVec 8

/-- A logical segment pattern, bit 0 = segment a to bit 6 = segment g, 1 = lit (R54). -/
abbrev Pattern := BitVec 7

/-- A frequency in hertz; 14 bits hold the largest, 9500 (R57). -/
abbrev Hertz := BitVec 14

/-- A digit code, the natural number 0 to 15 (R53). -/
abbrev DigitCode := Fin 16

end Sys2Proof
end

