-- ==== Sys2Proof/Syntax.lean ====
section
/-! DEFINITION. The operations of the block (spec/30_encoding.md R64), one constructor per row of
spec/opcode_table.json, with the names of the agents and contexts that execute them (R130, R134),
and the assembly statements and pseudo-operations they are written with (R68, R69). -/

namespace Sys2Proof

/-- The three sequencers (spec/60_exceptions.md R134). -/
inductive AgentId where
  | toneSelector   -- agent `T`
  | counter        -- agent `C`
  | display        -- agent `D`
  deriving DecidableEq, Repr, Inhabited

/-- Who executes an operation (R130): an agent in task context, the environment `ENV`, or the
interrupt handler. -/
inductive Context where
  | agent (a : AgentId)
  | env
  | handler
  deriving DecidableEq, Repr

/-- The position operand `p` of `DLD` and `DEN`: 0 = `T` (tens), 1 = `U` (units) (R56, R63). -/
inductive Position where
  | tens
  | units
  deriving DecidableEq, Repr

/-- The twenty operations of the opcode map (R64). Every operand type holds exactly the values
its field of the word can hold (R63), so every term is an operation of the map. -/
inductive Instr where
  | enc (d : DigitCode)
  | btn (b : Bool)
  | sig
  | wait
  | waitt
  | tarm
  | tadv
  | tdrv
  | tslp
  | twake
  | cinc
  | cslp
  | cwake
  | dblk
  | dld (p : Position)
  | den (p : Position)
  | dhld
  | dwake
  | tick
  | rst
  deriving DecidableEq, Repr

/-- The mnemonics of the map (R64, R68). -/
inductive Mnemonic where
  | enc | btn | sig | wait | waitt | tarm | tadv | tdrv | tslp | twake
  | cinc | cslp | cwake | dblk | dld | den | dhld | dwake | tick | rst
  deriving DecidableEq, Repr

/-- What follows a mnemonic in assembly (R68): nothing, a number, or a position letter. -/
inductive AsmOperand where
  | absent
  | number (n : Nat)
  | position (p : Position)
  deriving DecidableEq, Repr

/-- One operation as assembly writes it (R68), before its operand is checked. -/
structure AsmStmt where
  mnemonic : Mnemonic
  operand  : AsmOperand
  deriving DecidableEq, Repr

/-- The assembly statement of an operation (R68): a line level is written 0 or 1. -/
def Instr.stmt : Instr → AsmStmt
  | .enc d => ⟨.enc, .number d.val⟩
  | .btn b => ⟨.btn, .number (if b then 1 else 0)⟩
  | .sig => ⟨.sig, .absent⟩
  | .wait => ⟨.wait, .absent⟩
  | .waitt => ⟨.waitt, .absent⟩
  | .tarm => ⟨.tarm, .absent⟩
  | .tadv => ⟨.tadv, .absent⟩
  | .tdrv => ⟨.tdrv, .absent⟩
  | .tslp => ⟨.tslp, .absent⟩
  | .twake => ⟨.twake, .absent⟩
  | .cinc => ⟨.cinc, .absent⟩
  | .cslp => ⟨.cslp, .absent⟩
  | .cwake => ⟨.cwake, .absent⟩
  | .dblk => ⟨.dblk, .absent⟩
  | .dld p => ⟨.dld, .position p⟩
  | .den p => ⟨.den, .position p⟩
  | .dhld => ⟨.dhld, .absent⟩
  | .dwake => ⟨.dwake, .absent⟩
  | .tick => ⟨.tick, .absent⟩
  | .rst => ⟨.rst, .absent⟩

/-- The pseudo-operations of R69, for writing traces and programs briefly. -/
inductive Pseudo where
  | window (p : Position)
  | frame
  | tsleep
  | csleep
  | poll
  | titer
  | citer
  | press
  deriving DecidableEq, Repr

end Sys2Proof
end

