-- ==== Sys2Proof/WellFormed.lean ====
section
/-! DEFINITION. Which assembly statements name an operation of the map (spec/30_encoding.md R68,
R63): the operand a mnemonic takes, and its range. -/

namespace Sys2Proof

/-- The operand check of R68: `ENC` takes 0 to 15, `BTN` takes 0 or 1, `DLD` and `DEN` take a
position, and no other operation takes an operand (R60 to R62). -/
def AsmStmt.wellFormed (t : AsmStmt) : Bool :=
  match t.mnemonic, t.operand with
  | .enc, .number n => decide (n < 16)
  | .btn, .number n => decide (n < 2)
  | .dld, .position _ => true
  | .den, .position _ => true
  | .enc, _ => false
  | .btn, _ => false
  | .dld, _ => false
  | .den, _ => false
  | _, .absent => true
  | _, _ => false

/-- An operation is well formed when its assembly statement passes the operand check. -/
abbrev WellFormed (i : Instr) : Prop := i.stmt.wellFormed = true

end Sys2Proof
end

