-- ==== Sys2Proof/Decode.lean ====
section
/-! DEFINITION. The decoder and the encoder of operation words (spec/30_encoding.md R59 to R65,
R70) and the reader of assembly statements (R68, R69). -/

namespace Sys2Proof

/-- Why bytes are not an operation. -/
inductive DecodeReject where
  /-- the word is not in the opcode map: the decoder answers "invalid" (R65, R70) -/
  | invalid (w : Word)
  /-- there is no byte to read; the spec's words are always whole (R51) -/
  | noWord
  deriving DecidableEq, Repr

/-- Bits 7:4, the unit (R59). -/
def Word.unit (w : Word) : BitVec 4 := w.extractLsb' 4 4

/-- Bits 3:0, the function within the unit, or the digit operand `d` (R59, R63). -/
def Word.funct (w : Word) : BitVec 4 := w.extractLsb' 0 4

/-- The digit operand `d = word[3:0]`, zero-extended (R63). -/
def Word.digit (w : Word) : DigitCode :=
  ⟨(Word.funct w).toNat, (Word.funct w).isLt⟩

/-- Unit 0x1, the edge detector and the channel (R64). -/
def decodeChannel (w : Word) : Except DecodeReject Instr :=
  match Word.funct w with
  | 0x0#4 => .ok (.btn false)
  | 0x1#4 => .ok (.btn true)
  | 0x2#4 => .ok .sig
  | 0x3#4 => .ok .wait
  | 0x4#4 => .ok .waitt
  | _ => .error (.invalid w)

/-- Unit 0x2, the tone selector (R64). -/
def decodeTone (w : Word) : Except DecodeReject Instr :=
  match Word.funct w with
  | 0x0#4 => .ok .tarm
  | 0x1#4 => .ok .tadv
  | 0x2#4 => .ok .tdrv
  | 0x3#4 => .ok .tslp
  | 0x4#4 => .ok .twake
  | _ => .error (.invalid w)

/-- Unit 0x3, the counter (R64). -/
def decodeCounter (w : Word) : Except DecodeReject Instr :=
  match Word.funct w with
  | 0x0#4 => .ok .cinc
  | 0x1#4 => .ok .cslp
  | 0x2#4 => .ok .cwake
  | _ => .error (.invalid w)

/-- Unit 0x4, the display controller (R64); 0x41 is invalid (R70). -/
def decodeDisplay (w : Word) : Except DecodeReject Instr :=
  match Word.funct w with
  | 0x0#4 => .ok .dblk
  | 0x2#4 => .ok (.dld .tens)
  | 0x3#4 => .ok (.dld .units)
  | 0x4#4 => .ok (.den .tens)
  | 0x5#4 => .ok (.den .units)
  | 0x6#4 => .ok .dhld
  | 0x7#4 => .ok .dwake
  | _ => .error (.invalid w)

/-- Unit 0x5, the time base (R64). -/
def decodeTime (w : Word) : Except DecodeReject Instr :=
  match Word.funct w with
  | 0x0#4 => .ok .tick
  | _ => .error (.invalid w)

/-- Unit 0xF, reset: only 0xFF is assigned (R64, R65). -/
def decodeReset (w : Word) : Except DecodeReject Instr :=
  match Word.funct w with
  | 0xF#4 => .ok .rst
  | _ => .error (.invalid w)

/-- The decoder: total, one operation or "invalid" for every word, whatever the state (R70). -/
def decodeWord (w : Word) : Except DecodeReject Instr :=
  match Word.unit w with
  | 0x0#4 => .ok (.enc (Word.digit w))
  | 0x1#4 => decodeChannel w
  | 0x2#4 => decodeTone w
  | 0x3#4 => decodeCounter w
  | 0x4#4 => decodeDisplay w
  | 0x5#4 => decodeTime w
  | 0xF#4 => decodeReset w
  | _ => .error (.invalid w)

/-- The decoder on bytes: one operation and the bytes after it, or a rejection by name. -/
def decodeBytes : List (BitVec 8) → Except DecodeReject (Instr × List (BitVec 8))
  | [] => .error .noWord
  | w :: rest =>
    match decodeWord w with
    | .ok i => .ok (i, rest)
    | .error r => .error r

/-- The bit of a position operand: 0 = `T`, 1 = `U` (R63). -/
def Position.bit : Position → Nat
  | .tens => 0
  | .units => 1

/-- The word of an operation, from the opcode map of R64. -/
def encodeWord : Instr → Word
  | .enc d => BitVec.ofNat 8 d.val
  | .btn b => if b then 0x11 else 0x10
  | .sig => 0x12
  | .wait => 0x13
  | .waitt => 0x14
  | .tarm => 0x20
  | .tadv => 0x21
  | .tdrv => 0x22
  | .tslp => 0x23
  | .twake => 0x24
  | .cinc => 0x30
  | .cslp => 0x31
  | .cwake => 0x32
  | .dblk => 0x40
  | .dld p => BitVec.ofNat 8 (0x42 + p.bit)
  | .den p => BitVec.ofNat 8 (0x44 + p.bit)
  | .dhld => 0x46
  | .dwake => 0x47
  | .tick => 0x50
  | .rst => 0xFF

/-- The bytes of an operation: its one word. -/
def encode (i : Instr) : List (BitVec 8) := [encodeWord i]

/-- The bytes of an instruction whose bits are `w`, numbered as spec/opcode_table.json numbers
them; every bit above `nbits` is 0. An operation is one byte. -/
def tableBytes (nbits w : Nat) : List (BitVec 8) := [BitVec.ofNat 8 (w % 2 ^ nbits)]

/-- What the decoder reads from an instruction of the opcode table. -/
def decodeTableWord (nbits w : Nat) : Option Instr :=
  match decodeBytes (tableBytes nbits w) with
  | .ok (i, _) => some i
  | .error _ => none

/-- The fixed bits of a row of the opcode map: mask and match (R60 to R62, R64). -/
structure OpcodeRow where
  mask  : Word
  value : Word
  deriving DecidableEq, Repr

/-- The row of the opcode map an operation belongs to (R64). -/
def Instr.row : Instr → OpcodeRow
  | .enc _ => ⟨0xF0, 0x00⟩
  | .btn _ => ⟨0xFE, 0x10⟩
  | .sig => ⟨0xFF, 0x12⟩
  | .wait => ⟨0xFF, 0x13⟩
  | .waitt => ⟨0xFF, 0x14⟩
  | .tarm => ⟨0xFF, 0x20⟩
  | .tadv => ⟨0xFF, 0x21⟩
  | .tdrv => ⟨0xFF, 0x22⟩
  | .tslp => ⟨0xFF, 0x23⟩
  | .twake => ⟨0xFF, 0x24⟩
  | .cinc => ⟨0xFF, 0x30⟩
  | .cslp => ⟨0xFF, 0x31⟩
  | .cwake => ⟨0xFF, 0x32⟩
  | .dblk => ⟨0xFF, 0x40⟩
  | .dld _ => ⟨0xFE, 0x42⟩
  | .den _ => ⟨0xFE, 0x44⟩
  | .dhld => ⟨0xFF, 0x46⟩
  | .dwake => ⟨0xFF, 0x47⟩
  | .tick => ⟨0xFF, 0x50⟩
  | .rst => ⟨0xFF, 0xFF⟩

/-- A word matches a row when its bits under the mask are the row's. -/
def OpcodeRow.accepts (r : OpcodeRow) (w : Word) : Bool := w &&& r.mask == r.value

/-- The operation an assembly statement names; none where the statement is not well formed (R68). -/
def AsmStmt.instr? (t : AsmStmt) : Option Instr :=
  match t.mnemonic, t.operand with
  | .enc, .number n => if h : n < 16 then some (.enc ⟨n, h⟩) else none
  | .btn, .number n => if n = 0 then some (.btn false) else if n = 1 then some (.btn true) else none
  | .dld, .position p => some (.dld p)
  | .den, .position p => some (.den p)
  | .sig, .absent => some .sig
  | .wait, .absent => some .wait
  | .waitt, .absent => some .waitt
  | .tarm, .absent => some .tarm
  | .tadv, .absent => some .tadv
  | .tdrv, .absent => some .tdrv
  | .tslp, .absent => some .tslp
  | .twake, .absent => some .twake
  | .cinc, .absent => some .cinc
  | .cslp, .absent => some .cslp
  | .cwake, .absent => some .cwake
  | .dblk, .absent => some .dblk
  | .dhld, .absent => some .dhld
  | .dwake, .absent => some .dwake
  | .tick, .absent => some .tick
  | .rst, .absent => some .rst
  | _, _ => none

/-- One window of the display program (R69). -/
def windowOps (p : Position) : List Instr := [.dblk, .dld p, .den p, .dhld, .dwake]

/-- The expansion of a pseudo-operation (R69). -/
def Pseudo.expand : Pseudo → List Instr
  | .window p => windowOps p
  | .frame => windowOps .tens ++ windowOps .units
  | .tsleep => [.tslp, .twake]
  | .csleep => [.cslp, .cwake]
  | .poll => [.tarm, .waitt]
  | .titer => [.tarm, .waitt] ++ [.tadv, .tdrv] ++ [.tslp, .twake]
  | .citer => [.cinc] ++ [.cslp, .cwake]
  | .press => [.btn false, .btn true]

end Sys2Proof
end

