-- ==== Sys2Proof/Config.lean ====
section
/-! DEFINITION. What an implementation fixes (spec/00_scope.md R9) and the values the spec leaves
open: the parameters marked OPEN, the level of the button line at reset, the latches of an undriven
buzzer, and the schedule. Each open value is a constant with no body, so nothing can be proved of
which value it is. The numbers the source fixes stand in Machine/Tables.lean. -/

namespace Sys2Proof

/-- `T_POLL`, OPEN within 15 and 16 ticks (R9, D12). -/
inductive PollTicks where
  | fifteen
  | sixteen
  deriving DecidableEq, Repr, Inhabited

/-- The poll timeout in ticks (R9). -/
def PollTicks.ticks : PollTicks → Nat
  | .fifteen => 15
  | .sixteen => 16

/-- The parameters of R9 that are OPEN or offered as a switch. They are parameters of the step
relation (R28) and constants of a machine (R142). -/
structure Params where
  /-- `SEG_TABLE`: 16 logical patterns (R71, R73, D5) -/
  segTable     : Vector Pattern 16
  /-- `SEG_ACTIVE_LOW` (R55, D7) -/
  segActiveLow : Bool
  /-- `DIG_ACTIVE_LOW` (R55, D7) -/
  digActiveLow : Bool
  /-- `T_POLL` (D12) -/
  tPoll        : PollTicks
  /-- `T_TSLEEP`, any natural (R89, D12) -/
  tTSleep      : Nat
  /-- `DUTY`, passed through by `TDRV`; no width in the spec (R88, D13) -/
  duty         : Nat
  /-- `SNAPSHOT` (R103, D18) -/
  snapshot     : Bool
  /-- `MAXPROG` (R115, D11) -/
  maxProg      : Bool
  deriving DecidableEq, Repr

/-- A choice of the schedule (spec/60_exceptions.md R135): the environment moves the line or
advances time, or an agent executes the operation at its phase counter. -/
inductive Move where
  | btn (b : Bool)
  | tick
  | agent (a : AgentId)
  deriving DecidableEq, Repr, Inhabited

/-- DESIGN CHOICE (log 1), safe: an OPEN parameter, unknown. -/
opaque Config.segTable : Vector Pattern 16
/-- DESIGN CHOICE (log 1), safe: an OPEN parameter, unknown. -/
opaque Config.segActiveLow : Bool
/-- DESIGN CHOICE (log 1), safe: an OPEN parameter, unknown. -/
opaque Config.digActiveLow : Bool
/-- DESIGN CHOICE (log 1), safe: an OPEN parameter, unknown but for R9's two values. -/
opaque Config.tPoll : PollTicks
/-- DESIGN CHOICE (log 1), safe: an OPEN parameter, unknown. -/
opaque Config.tTSleep : Nat
/-- DESIGN CHOICE (log 1), safe: an OPEN parameter, unknown. -/
opaque Config.duty : Nat
/-- DESIGN CHOICE (log 1), safe: an OPEN parameter, unknown. -/
opaque Config.maxProg : Bool
/-- DESIGN CHOICE (log 5), unsafe: the level of the `btn` line at reset, unknown (R36, N8). -/
opaque Config.btnAtReset : Bool
/-- DESIGN CHOICE (log 6), unsafe: what `BUZF` holds before the first `TDRV`, unknown (R38). -/
opaque Config.buzfAtReset : Hertz
/-- DESIGN CHOICE (log 6), unsafe: what `BUZD` holds before the first `TDRV`, unknown (R38). -/
opaque Config.buzdAtReset : Nat
/-- DESIGN CHOICE (log 3), safe: the free schedule (R139). The `n`-th choice that no queued
request makes is `Config.freeMove n`, of which nothing is known. -/
opaque Config.freeMove : Nat → Move

/-- `SNAPSHOT` is false by the spec's decision D18 (log 2). -/
def Config.snapshot : Bool := false

/-- The parameters a machine has at reset. -/
def Config.params : Params where
  segTable     := Config.segTable
  segActiveLow := Config.segActiveLow
  digActiveLow := Config.digActiveLow
  tPoll        := Config.tPoll
  tTSleep      := Config.tTSleep
  duty         := Config.duty
  snapshot     := Config.snapshot
  maxProg      := Config.maxProg

end Sys2Proof
end

