-- ==== Sys2Proof/Machine/State.lean ====
section
/-! DEFINITION. The state of the block (spec/10_state.md R13, R14), its output trace (R35), the port
the environment drives (R30), what the model adds to run as one deterministic step (log 1, 3, 7, 8),
the reasons a step stops, and the state after reset (R36, R142). -/

namespace Sys2Proof.Machine

/-- `DIG`: the three values R14 and R23 allow; 0b11 cannot be written down (R29, D32). -/
inductive DigSel where
  | blank   -- 0b00
  | tens    -- 0b10
  | units   -- 0b01
  deriving DecidableEq, Repr

/-- The events of the output trace (R35). -/
inductive Event where
  | buzzSet (f : Hertz) (d : Nat)
  | segSet (p : Pattern)
  | digSet (s : DigSel)
  | sig
  | take
  | timeout
  | inc (v : Fin 100)
  deriving DecidableEq, Repr

/-- What the schedule asks for next: a move of the step relation (R135), or that a context execute
a given word (R67, R72, R77, R119, R130). -/
inductive Request where
  | move (m : Move)
  | asked (c : Context) (w : Word)
  deriving DecidableEq, Repr

/-- The state. The first group is the register table of R14, under its own names. -/
@[ext]
structure State where
  /-- `TIDX`, the tone index (R16) -/
  tidx : Fin 6
  /-- `CNT`, the shared counter (R17) -/
  cnt : Fin 100
  /-- `PEND`: false = empty, true = signaled (R18, R58) -/
  pend : Bool
  /-- `GOT`: the last completed wait consumed a signal (R19) -/
  got : Bool
  /-- `BTNQ`: the last seen level of the line (R20) -/
  btnq : Bool
  /-- `VAL`: the counter value last read by the display (R21) -/
  val : Fin 100
  /-- `DGT`: the digit code last loaded (R21) -/
  dgt : DigitCode
  /-- `SEG`: the logical segment pattern (R22) -/
  seg : Pattern
  /-- `DIG`: the logical digit select (R23) -/
  dig : DigSel
  /-- `BUZF`: the frequency last presented (R24) -/
  buzf : Hertz
  /-- `BUZD`: the duty cycle last presented (R24) -/
  buzd : Nat
  /-- `BUZV`: the buzzer has been driven since reset (R24) -/
  buzv : Bool
  /-- `NOW`: ticks since reset; never wraps (R25) -/
  now : Nat
  /-- `TMR_T` (R26) -/
  tmrT : Nat
  /-- `TMR_C` (R26) -/
  tmrC : Nat
  /-- `TMR_D` (R26) -/
  tmrD : Nat
  /-- `pc_T` (R27) -/
  pcT : Fin 6
  /-- `pc_C` (R27) -/
  pcC : Fin 3
  /-- `pc_D` (R27) -/
  pcD : Fin 10
  /-- the output trace, oldest event first (R35) -/
  trace : List Event
  /-- the input port `btn`: the level on the button line (R30) -/
  btn : Bool
  /-- the parameters of R9, constants of the machine (R28; log 1) -/
  params : Params
  /-- the platform's setup has succeeded (R144, R145; log 7) -/
  setupOk : Bool
  /-- requests of the schedule not yet served, next first (R139; log 3) -/
  queue : List Request
  /-- how many free choices of the schedule have been taken (log 3) -/
  choices : Nat
  /-- the result of the last `ENC`, handed to whoever executed it (R72; log 8) -/
  encResult : Option Pattern
  deriving DecidableEq, Repr

/-- Why a read is an error. The block itself raises no exception (R117). -/
inductive Fault where
  /-- `BUZF` or `BUZD` was read while `BUZV` = 0 (R24, R38, U5). Raised by the port reads
  `buzFreqPin` and `buzDutyPin`, never by `step`. Safe: the model stops where the spec gives
  no value. -/
  | buzzerUndriven
  deriving DecidableEq, Repr

/-- The model refusals of R119, and the one U13 asks for. All are raised by `step` before an
operation executes or by a port read, none by an operation's meaning. Safe: each marks a run about which the spec says nothing. -/
inductive Refusal where
  /-- an operation with no meaning in `exec`; none is left. Safe. -/
  | notModelled (mnemonic : String)
  /-- `X_BADOP`, code 1: a word outside the opcode map was to be executed (R65). Safe. -/
  | badOp (w : Word)
  /-- `X_MULTIWAIT`, code 2: a second agent was to wait on `PEND` (R120). Safe. -/
  | multiWait
  /-- `X_CFG`, code 3: the platform's setup failed; the block takes no step and the model says
  nothing of the pins (R145). Raised by `step` and by every port read. Safe. -/
  | cfg
  /-- `X_CTX`, code 4: an operation in a context that may not execute it (R130). Safe. -/
  | ctx
  /-- a register holds a value outside its range (R29), which the spec asks to refuse where it can
  be written down (U13; the name is the model's, log 14). Raised by `step` and by every port read.
  Safe: no run from reset reaches such a state. -/
  | outOfRange
  deriving DecidableEq, Repr

/-- The state after reset (R36, R142) of a machine with parameters `p` and the line at `level`.
`BUZF` and `BUZD` hold values of which nothing is known (R38; log 6). -/
def State.resetWith (p : Params) (level : Bool) : State where
  tidx := 0
  cnt := 0
  pend := false
  got := false
  btnq := level
  val := 0
  dgt := 0
  seg := 0
  dig := .blank
  buzf := Config.buzfAtReset
  buzd := Config.buzdAtReset
  buzv := false
  now := 0
  tmrT := 0
  tmrC := 0
  tmrD := 0
  pcT := 0
  pcC := 0
  pcD := 0
  trace := []
  btn := level
  params := p
  setupOk := true
  queue := []
  choices := 0
  encResult := none

/-- The machine right after reset: parameters and line level as the environment has them, the
platform's setup done (R144), no request queued. -/
def State.reset : State := State.resetWith Config.params Config.btnAtReset

end Sys2Proof.Machine
end

