-- ==== Sys2Proof/Machine/Tables.lean ====
section
/-! DEFINITION. The numbers, tables and programs the spec fixes: spec/00_scope.md R9,
spec/30_encoding.md R57 and R66, spec/40_segment_encoder.md R73. All are immutable (R42). -/

namespace Sys2Proof.Machine

/-- `TONE_TABLE`, in hertz per tone index (R57). -/
def toneTable : Vector Hertz 6 := #v[500, 1000, 1500, 2000, 3000, 9500]

/-- `TblRead(TONE_TABLE, k)`; the index is always in range (R41). -/
def toneAt (k : Fin 6) : Hertz := toneTable[k]

/-- The default content of `SEG_TABLE` (R73), general knowledge and not in the source (G1): used
by tests alone, no meaning reads it (PRESUMED, log 18). -/
def segTableDefault : Vector Pattern 16 :=
  #v[0x3F, 0x06, 0x5B, 0x4F, 0x66, 0x6D, 0x7D, 0x07, 0x7F, 0x6F, 0x77, 0x7C, 0x39, 0x5E, 0x79, 0x71]

/-- `T_CNT`, the counter period in ticks of 1 ms (R9, R97). -/
def tCnt : Nat := 1000

/-- `T_HOLD`, the display hold per digit in ticks (R9, R105). -/
def tHold : Nat := 1

/-- `PROG_T` (R66). -/
def progT : Vector Word 6 := #v[0x20, 0x14, 0x21, 0x22, 0x23, 0x24]

/-- `PROG_C` (R66). -/
def progC : Vector Word 3 := #v[0x30, 0x31, 0x32]

/-- `PROG_D` (R66). -/
def progD : Vector Word 10 := #v[0x40, 0x42, 0x44, 0x46, 0x47, 0x40, 0x43, 0x45, 0x46, 0x47]

/-- The word at an agent's phase counter: the fetch of agent `A` (R15, R27, R51). -/
def fetchWord (a : AgentId) (s : State) : Word :=
  match a with
  | .toneSelector => progT[s.pcT]
  | .counter => progC[s.pcC]
  | .display => progD[s.pcD]

end Sys2Proof.Machine
end

