-- ==== Sys2Proof/Machine/Ops.lean ====
section
/-! DEFINITION. The named operations the meanings are made of: the phase counters (spec/10_state.md
R27), the output trace (R35), the two accesses of the channel (spec/20_memory.md R46), the deadline
registers (spec/45_time_base.md R114), and the interrupt's entry and return
(spec/60_exceptions.md R126, R128). -/

namespace Sys2Proof.Machine

/-- `(x + 1) mod N` on a register whose range is 0 to N - 1 (R27, R87, R96). -/
def cycle {n : Nat} (x : Fin (n + 1)) : Fin (n + 1) :=
  ⟨(x.val + 1) % (n + 1), Nat.mod_lt _ (Nat.succ_pos n)⟩

/-- `next(T)` (R11, R27). -/
def State.nextT (s : State) : State := { s with pcT := cycle s.pcT }

/-- `next(C)` (R11, R27). -/
def State.nextC (s : State) : State := { s with pcC := cycle s.pcC }

/-- `next(D)` (R11, R27). -/
def State.nextD (s : State) : State := { s with pcD := cycle s.pcD }

/-- `emit E` (R11, R35). -/
def State.emit (s : State) (e : Event) : State := { s with trace := s.trace ++ [e] }

/-- The producer's access of the channel, `signal()`: test-and-set to signaled, idempotent
(R46, R75, R77). -/
def State.signal (s : State) : State := { s with pend := true }.emit .sig

/-- The consumer's access of the channel: test-and-clear of a pending signal, whose outcome goes
to `GOT` (R46, R78, R79). -/
def State.takeSignal (s : State) : State := { s with pend := false, got := true }.emit .take

/-- A wait that ends by its timeout (R79). -/
def State.timeOut (s : State) : State := { s with got := false }.emit .timeout

/-- The return from the interrupt: nothing to restore and nothing to re-enable (R128). -/
def State.returnFromInterrupt (s : State) : State := s

/-- Taking the interrupt (R126): nothing is saved, no mode or mask changes, control goes nowhere;
the handler is the one operation `SIG`, and then it returns (R128). -/
def State.takeInterrupt (s : State) : State := s.signal.returnFromInterrupt

/-- Start a delay of agent `T`: `TMR_T <- NOW + n` (R26, R114). -/
def State.armT (s : State) (n : Nat) : State := { s with tmrT := s.now + n }

/-- Start a delay of agent `C` (R26, R114). -/
def State.armC (s : State) (n : Nat) : State := { s with tmrC := s.now + n }

/-- Start a delay of agent `D` (R26, R114). -/
def State.armD (s : State) (n : Nat) : State := { s with tmrD := s.now + n }

end Sys2Proof.Machine
end

