-- ==== Sys2Proof/Machine/Operands.lean ====
section
/-! DEFINITION. The operand forms (spec/30_encoding.md R63): the digit code of the segment encoder
(spec/40_segment_encoder.md R71), the digit position and the decimal digits of the counter
(spec/44_display_mux.md R103, R107), and the select value of a position (R56, R104). -/

namespace Sys2Proof.Machine

/-- `enc(d) = TblRead(SEG_TABLE, d)`: total and pure (R71). -/
def encode7 (p : Params) (d : DigitCode) : Pattern := p.segTable[d]

/-- The tens digit, `v div 10` (R107). -/
def tensDigit (v : Fin 100) : DigitCode := ⟨v.val / 10, by omega⟩

/-- The units digit, `v mod 10` (R107). -/
def unitsDigit (v : Fin 100) : DigitCode := ⟨v.val % 10, by omega⟩

/-- The digit of a position (R103). -/
def digitOf (p : Position) (v : Fin 100) : DigitCode :=
  match p with
  | .tens => tensDigit v
  | .units => unitsDigit v

/-- The select value that enables one position alone (R104). -/
def selectOf : Position → DigSel
  | .tens => .tens
  | .units => .units

/-- `DIG` as its two bits: bit 1 enables tens, bit 0 enables units (R23, R56). -/
def DigSel.bits : DigSel → BitVec 2
  | .blank => 0b00
  | .tens => 0b10
  | .units => 0b01

/-- Whether `DLD p` reads the counter again: always for tens, and for units unless `SNAPSHOT`
(R103, D18). -/
def readsCounter (s : State) (p : Position) : Bool :=
  match p with
  | .tens => true
  | .units => !s.params.snapshot

end Sys2Proof.Machine
end

