-- ==== Sys2Proof/Machine/Flags.lean ====
section
/-! DEFINITION. The conditions operations test and the ranges of the registers (spec/10_state.md R29): the falling edge (spec/41_edge_channel.md R76, R84),
an elapsed deadline (spec/45_time_base.md R114), and which operations are enabled in a state
(spec/60_exceptions.md R136, spec/45_time_base.md R113 and R115). -/

namespace Sys2Proof.Machine

/-- A falling edge: the line was last seen at 1 and is now presented at 0 (R76, R84). -/
def fallingEdge (last new : Bool) : Bool := last && !new

/-- `NOW >= TMR_T` (R114). -/
def State.dueT (s : State) : Bool := decide (s.tmrT ≤ s.now)

/-- `NOW >= TMR_C` (R114). -/
def State.dueC (s : State) : Bool := decide (s.tmrC ≤ s.now)

/-- `NOW >= TMR_D` (R114). -/
def State.dueD (s : State) : Bool := decide (s.tmrD ≤ s.now)

/-- Whether an operation of an agent's program is enabled: only a wait and the wakes can be held
(R136). -/
def programOpEnabled (i : Instr) (s : State) : Bool :=
  match i with
  | .waitt => s.pend || s.dueT
  | .twake => s.dueT
  | .cwake => s.dueC
  | .dwake => s.dueD
  | _ => true

/-- Whether the operation at an agent's phase counter is enabled (R135, R136). -/
def agentEnabled (a : AgentId) (s : State) : Bool :=
  match decodeWord (fetchWord a s) with
  | .ok i => programOpEnabled i s
  | .error _ => false

/-- No operation of agents `T`, `C` and `D` is enabled (R113, R115). -/
def State.allHeld (s : State) : Bool :=
  !agentEnabled .toneSelector s && !agentEnabled .counter s && !agentEnabled .display s

/-- `TICK` is enabled always when `MAXPROG` is false, and only with every agent held when it is
true (R113, R115). -/
def State.tickEnabled (s : State) : Bool := !s.params.maxProg || s.allHeld

/-- Which operations are enabled in a state (R136). -/
def enabled (i : Instr) (s : State) : Bool :=
  match i with
  | .wait => s.pend
  | .tick => s.tickEnabled
  | i => programOpEnabled i s

/-- The part of R29 that the types of State do not already say. `step` and the ports refuse a state
that breaks it (U13; log 14). -/
abbrev RangesInv (s : State) : Prop :=
  s.dgt.val ≤ 9 ∧
  (s.buzv = true → (∃ k : Fin 6, s.buzf = toneAt k) ∧ s.buzd = s.params.duty) ∧
  (s.seg = 0 ∨ ∃ d : DigitCode, d.val ≤ 9 ∧ s.seg = encode7 s.params d)

end Sys2Proof.Machine
end

