-- ==== Sys2Proof/Machine/Counter.lean ====
section
/-! DEFINITION. The counter's operations (spec/43_counter.md R96 to R98). -/

namespace Sys2Proof.Machine

/-- Write the counter and report the new value (R96). -/
def State.setCount (s : State) (v : Fin 100) : State := { s with cnt := v }.emit (.inc v)

/-- `CINC` (R96). -/
def execCinc (s : State) : Host.Outcome State Fault Refusal :=
  .next (s.setCount (cycle s.cnt)).nextC

/-- `CSLP` (R97): relative to this operation (D21). -/
def execCslp (s : State) : Host.Outcome State Fault Refusal := .next (s.armC tCnt).nextC

/-- `CWAKE` (R98). -/
def execCwake (s : State) : Host.Outcome State Fault Refusal :=
  .next (if s.dueC then s.nextC else s)

end Sys2Proof.Machine
end

