-- ==== Sys2Proof/Machine/Display.lean ====
section
/-! DEFINITION. The display controller's operations (spec/44_display_mux.md R102 to R106). -/

namespace Sys2Proof.Machine

/-- Write the whole of `DIG` and report it (R102, R104). -/
def State.setSelect (s : State) (d : DigSel) : State := { s with dig := d }.emit (.digSet d)

/-- `VAL <- CNT`, where `DLD p` reads the counter (R103). -/
def State.readCounter (s : State) (p : Position) : State :=
  { s with val := if readsCounter s p then s.cnt else s.val }

/-- `DGT <- d; SEG <- enc(d)` and its event (R103). -/
def State.showDigit (s : State) (d : DigitCode) : State :=
  { s with dgt := d, seg := encode7 s.params d }.emit (.segSet (encode7 s.params d))

/-- `DBLK` (R102). -/
def execDblk (s : State) : Host.Outcome State Fault Refusal := .next (s.setSelect .blank).nextD

/-- `DLD p` (R103). -/
def execDld (p : Position) (s : State) : Host.Outcome State Fault Refusal :=
  .next ((s.readCounter p).showDigit (digitOf p (s.readCounter p).val)).nextD

/-- `DEN p` (R104). -/
def execDen (p : Position) (s : State) : Host.Outcome State Fault Refusal :=
  .next (s.setSelect (selectOf p)).nextD

/-- `DHLD` (R105). -/
def execDhld (s : State) : Host.Outcome State Fault Refusal := .next (s.armD tHold).nextD

/-- `DWAKE` (R106). -/
def execDwake (s : State) : Host.Outcome State Fault Refusal :=
  .next (if s.dueD then s.nextD else s)

end Sys2Proof.Machine
end

