-- ==== Sys2Proof/Machine/EdgeChannel.lean ====
section
/-! DEFINITION. The button edge detector and the edge signal channel (spec/41_edge_channel.md R76
to R79). A held operation changes nothing (R11; log 4). -/

namespace Sys2Proof.Machine

/-- `BTN b` (R76): a falling edge runs the interrupt handler in the same step; then the level is
remembered. The line itself is at `b` from here on (R30; DEDUCED, safe, log 13). -/
def execBtn (b : Bool) (s : State) : Host.Outcome State Fault Refusal :=
  .next { (if fallingEdge s.btnq b then s.takeInterrupt else s) with btnq := b, btn := b }

/-- `SIG` (R77). -/
def execSig (s : State) : Host.Outcome State Fault Refusal := .next s.signal

/-- `WAIT` (R78): takes a pending signal, else is held. -/
def execWait (s : State) : Host.Outcome State Fault Refusal :=
  .next (if s.pend then s.takeSignal.nextT else s)

/-- `WAITT` (R79): a pending signal is taken first (D16), else an elapsed timeout ends the wait,
else it is held. -/
def execWaitt (s : State) : Host.Outcome State Fault Refusal :=
  .next (if s.pend then s.takeSignal.nextT else if s.dueT then s.timeOut.nextT else s)

end Sys2Proof.Machine
end

