-- ==== Sys2Proof/Machine/Reset.lean ====
section
/-! DEFINITION. The reset operation (spec/70_reset_and_hazards.md R141, R159). -/

namespace Sys2Proof.Machine

/-- `RST` (R141): the state of R36 with `BTNQ` at the line's level now. What is no state of the block
stays: the parameters (R142), the line, the setup's outcome, and what the environment has asked for
(DEDUCED, safe, log 11). -/
def execRst (s : State) : Host.Outcome State Fault Refusal :=
  .next { State.resetWith s.params s.btn with
    setupOk := s.setupOk, queue := s.queue, choices := s.choices }

end Sys2Proof.Machine
end

