-- ==== Sys2Proof/Machine/SegmentEncoder.lean ====
section
/-! DEFINITION. The segment encoder's operation (spec/40_segment_encoder.md R72). -/

namespace Sys2Proof.Machine

/-- `ENC d` (R72): the result is handed to whoever executes it; no register, phase counter or event
changes. `encResult` is the model's own place for the result (DESIGN CHOICE, safe, log 8). -/
def execEnc (d : DigitCode) (s : State) : Host.Outcome State Fault Refusal :=
  .next { s with encResult := some (encode7 s.params d) }

end Sys2Proof.Machine
end

