-- ==== Sys2Proof/Machine/TimeBase.lean ====
section
/-! DEFINITION. The time base's operation (spec/45_time_base.md R113). -/

namespace Sys2Proof.Machine

/-- `TICK` (R113): held under `MAXPROG` while some agent's operation is enabled (R115). -/
def execTick (s : State) : Host.Outcome State Fault Refusal :=
  .next (if s.tickEnabled then { s with now := s.now + 1 } else s)

end Sys2Proof.Machine
end

