-- ==== Sys2Proof/Machine/ToneSelector.lean ====
section
/-! DEFINITION. The tone selector's operations (spec/42_tone_selector.md R86 to R90). -/

namespace Sys2Proof.Machine

/-- `TARM` (R86). -/
def execTarm (s : State) : Host.Outcome State Fault Refusal :=
  .next (s.armT s.params.tPoll.ticks).nextT

/-- `TADV` (R87): `GOT` is left as it is (D33). -/
def execTadv (s : State) : Host.Outcome State Fault Refusal :=
  .next (if s.got then { s with tidx := cycle s.tidx } else s).nextT

/-- Present a frequency and a duty cycle to the PWM generator (R24, R33, R88): the latches are
written and the strobe `buz_set` fires, as the event `BuzzSet`. -/
def State.presentTone (s : State) (f : Hertz) (d : Nat) : State :=
  { s with buzf := f, buzd := d, buzv := true }.emit (.buzzSet f d)

/-- `TDRV` (R88): unconditional. -/
def execTdrv (s : State) : Host.Outcome State Fault Refusal :=
  .next (s.presentTone (toneAt s.tidx) s.params.duty).nextT

/-- `TSLP` (R89). -/
def execTslp (s : State) : Host.Outcome State Fault Refusal :=
  .next (s.armT s.params.tTSleep).nextT

/-- `TWAKE` (R90). -/
def execTwake (s : State) : Host.Outcome State Fault Refusal :=
  .next (if s.dueT then s.nextT else s)

end Sys2Proof.Machine
end

