-- ==== Sys2Proof/Machine/Dispatch.lean ====
section
/-! DEFINITION. Which meaning each operation of the opcode map has. -/

namespace Sys2Proof.Machine

def exec (i : Instr) (s : State) : Host.Outcome State Fault Refusal :=
  match i with
  | .enc d => Sys2Proof.Machine.execEnc d s
  | .btn b => Sys2Proof.Machine.execBtn b s
  | .sig => Sys2Proof.Machine.execSig s
  | .wait => Sys2Proof.Machine.execWait s
  | .waitt => Sys2Proof.Machine.execWaitt s
  | .tarm => Sys2Proof.Machine.execTarm s
  | .tadv => Sys2Proof.Machine.execTadv s
  | .tdrv => Sys2Proof.Machine.execTdrv s
  | .tslp => Sys2Proof.Machine.execTslp s
  | .twake => Sys2Proof.Machine.execTwake s
  | .cinc => Sys2Proof.Machine.execCinc s
  | .cslp => Sys2Proof.Machine.execCslp s
  | .cwake => Sys2Proof.Machine.execCwake s
  | .dblk => Sys2Proof.Machine.execDblk s
  | .dld p => Sys2Proof.Machine.execDld p s
  | .den p => Sys2Proof.Machine.execDen p s
  | .dhld => Sys2Proof.Machine.execDhld s
  | .dwake => Sys2Proof.Machine.execDwake s
  | .tick => Sys2Proof.Machine.execTick s
  | .rst => Sys2Proof.Machine.execRst s

end Sys2Proof.Machine
end

