-- ==== Sys2Proof/Machine/Schedule.lean ====
section
/-! DEFINITION. Who may execute what (spec/60_exceptions.md R127, R130, the agent column of
spec/30_encoding.md R64), and what the schedule asks for next (R135, R139; log 3, 9, 10, 15). -/

namespace Sys2Proof.Machine

/-- The contexts that may execute an operation: the "agent" column of R64. `ENC` is a pure function
that any agent and the environment may evaluate; the handler may execute `SIG` and nothing else
(R127), and the environment may execute `SIG` alone, as a harness does (R77) (DEDUCED, log 9). -/
def mayExecute (c : Context) (i : Instr) : Bool :=
  match i, c with
  | .enc _, .handler => false
  | .enc _, _ => true
  | .sig, .handler => true
  | .sig, .env => true
  | .btn _, .env => true
  | .tick, .env => true
  | .rst, .env => true
  | .wait, .agent .toneSelector => true
  | .waitt, .agent .toneSelector => true
  | .tarm, .agent .toneSelector => true
  | .tadv, .agent .toneSelector => true
  | .tdrv, .agent .toneSelector => true
  | .tslp, .agent .toneSelector => true
  | .twake, .agent .toneSelector => true
  | .cinc, .agent .counter => true
  | .cslp, .agent .counter => true
  | .cwake, .agent .counter => true
  | .dblk, .agent .display => true
  | .dld _, .agent .display => true
  | .den _, .agent .display => true
  | .dhld, .agent .display => true
  | .dwake, .agent .display => true
  | _, _ => false

/-- The waits on the channel (R75). -/
def waitsOnChannel : Instr → Bool
  | .wait => true
  | .waitt => true
  | _ => false

/-- Why an operation is refused in a context that may not execute it: a second agent that waits on
the channel is `X_MULTIWAIT` (R120), everything else `X_CTX` (R130) (DEDUCED, log 9). -/
def contextRefusal (c : Context) (i : Instr) : Refusal :=
  match c with
  | .agent _ => if waitsOnChannel i then .multiWait else .ctx
  | _ => .ctx

/-- A context that may execute an operation (R64). -/
def contextFor : Instr → Context
  | .enc _ => .env
  | .btn _ => .env
  | .sig => .env
  | .tick => .env
  | .rst => .env
  | .wait => .agent .toneSelector
  | .waitt => .agent .toneSelector
  | .tarm => .agent .toneSelector
  | .tadv => .agent .toneSelector
  | .tdrv => .agent .toneSelector
  | .tslp => .agent .toneSelector
  | .twake => .agent .toneSelector
  | .cinc => .agent .counter
  | .cslp => .agent .counter
  | .cwake => .agent .counter
  | .dblk => .agent .display
  | .dld _ => .agent .display
  | .den _ => .agent .display
  | .dhld => .agent .display
  | .dwake => .agent .display

/-- The request to serve next: the oldest queued one, else a free choice (R139; log 3). -/
def State.nextRequest (s : State) : Request :=
  match s.queue with
  | r :: _ => r
  | [] => .move (Config.freeMove s.choices)

/-- The state with its next request taken off. -/
def State.consume (s : State) : State :=
  match s.queue with
  | _ :: rest => { s with queue := rest }
  | [] => { s with choices := s.choices + 1 }

/-- The context and the word of a request (R135): the environment's words for its two moves, and
for an agent the word at its phase counter. -/
def requested (s : State) : Request → Context × Word
  | .move (.btn b) => (.env, encodeWord (.btn b))
  | .move .tick => (.env, encodeWord .tick)
  | .move (.agent a) => (.agent a, fetchWord a s)
  | .asked c w => (c, w)

/-- The context and the word the next step executes. -/
def State.fetched (s : State) : Context × Word := requested s s.nextRequest

/-- The context asked to execute a word: one that may, where the word is an operation. -/
def contextForWord (w : Word) : Context :=
  match decodeWord w with
  | .ok i => contextFor i
  | .error _ => .env

/-- The state in which the next step is asked to execute a word. -/
def State.ask (s : State) (w : Word) : State :=
  { s with queue := .asked (contextForWord w) w :: s.queue }

end Sys2Proof.Machine
end

