-- ==== Sys2Proof/Machine/Step.lean ====
section
/-! DEFINITION. One step (spec/60_exceptions.md R135): the word the schedule asks for is decoded and
executed, or refused by the names of R119; a state outside the ranges of spec/10_state.md R29 is
refused too (U13; log 14). -/

namespace Sys2Proof.Machine

def step (s : State) : Host.Outcome State Fault Refusal :=
  if s.setupOk then
    match decodeWord s.fetched.2 with
    | .ok i =>
      if mayExecute s.fetched.1 i then
        if RangesInv s then exec i s.consume else .refused .outOfRange
      else .refused (contextRefusal s.fetched.1 i)
    | .error _ => .refused (.badOp s.fetched.2)
  else .refused .cfg

/-- The state in which the next step executes the given instruction of the opcode table. The
programs are hardwired (R66), so the word is asked for directly, in a context that may execute it
(DESIGN CHOICE, safe, log 15). -/
def State.withFetchWord (s : State) (nbits w : Nat) : State :=
  match tableBytes nbits w with
  | b :: _ => s.ask b
  | [] => s

end Sys2Proof.Machine
end

