-- ==== Sys2Proof/Machine/Assembly.lean ====
section
/-! DEFINITION. Assembly text (spec/30_encoding.md R68): a line is an optional agent in front, the
mnemonic, its operand, and an optional comment. The details R68 leaves open are in log 20. -/

namespace Sys2Proof.Machine

/-- The mnemonic in capitals (R68). -/
def mnemonicText : Mnemonic → String
  | .enc => "ENC"
  | .btn => "BTN"
  | .sig => "SIG"
  | .wait => "WAIT"
  | .waitt => "WAITT"
  | .tarm => "TARM"
  | .tadv => "TADV"
  | .tdrv => "TDRV"
  | .tslp => "TSLP"
  | .twake => "TWAKE"
  | .cinc => "CINC"
  | .cslp => "CSLP"
  | .cwake => "CWAKE"
  | .dblk => "DBLK"
  | .dld => "DLD"
  | .den => "DEN"
  | .dhld => "DHLD"
  | .dwake => "DWAKE"
  | .tick => "TICK"
  | .rst => "RST"

/-- Every mnemonic (R64). -/
def allMnemonics : List Mnemonic :=
  [.enc, .btn, .sig, .wait, .waitt, .tarm, .tadv, .tdrv, .tslp, .twake] ++
  [.cinc, .cslp, .cwake, .dblk, .dld, .den, .dhld, .dwake, .tick, .rst]

/-- The mnemonic a token spells. -/
def mnemonicOf (tok : List Char) : Option Mnemonic :=
  allMnemonics.find? fun m => (mnemonicText m).toList == tok

/-- A token that has been collected backwards, if there is one. -/
def flushToken (acc : List Char) : List (List Char) := if acc = [] then [] else [acc.reverse]

/-- The tokens of a line: split at spaces, up to a comment, which starts with `;` (R68). -/
def tokensFrom : List Char → List Char → List (List Char)
  | [], acc => flushToken acc
  | c :: cs, acc =>
    if c = ';' then flushToken acc
    else if c = ' ' then flushToken acc ++ tokensFrom cs []
    else tokensFrom cs (c :: acc)

/-- The value of a decimal digit. -/
def decimalDigit (c : Char) : Option Nat :=
  if '0' ≤ c ∧ c ≤ '9' then some (c.toNat - 48) else none

/-- The value of a hexadecimal digit, capitals as R68 writes them. -/
def hexDigit (c : Char) : Option Nat :=
  if 'A' ≤ c ∧ c ≤ 'F' then some (c.toNat - 55) else decimalDigit c

/-- A decimal number continued from a value. -/
def decimalFrom : List Char → Nat → Option Nat
  | [], n => some n
  | c :: cs, n =>
    match decimalDigit c with
    | some d => decimalFrom cs (10 * n + d)
    | none => none

/-- A decimal number of at least one digit. -/
def decimalNumber : List Char → Option Nat
  | [] => none
  | c :: cs => decimalFrom (c :: cs) 0

/-- The digit code `d` of `ENC`: decimal, or one hexadecimal digit after `0x` (R68). -/
def digitOperand : List Char → Option Nat
  | ['0', 'x', c] => hexDigit c
  | cs => decimalNumber cs

/-- The position `p` of `DLD` and `DEN` (R68). -/
def positionOperand : List Char → Option Position
  | ['T'] => some .tens
  | ['U'] => some .units
  | _ => none

/-- The operand of a mnemonic from the tokens after it. -/
def operandOf (m : Mnemonic) (toks : List (List Char)) : Option AsmOperand :=
  match m, toks with
  | .enc, [t] => (digitOperand t).map .number
  | .btn, [t] => (decimalNumber t).map .number
  | .dld, [t] => (positionOperand t).map .position
  | .den, [t] => (positionOperand t).map .position
  | _, [] => some .absent
  | _, _ => none

/-- The agent in front of a trace line (R68). -/
def agentTag (tok : List Char) : Option Context :=
  if tok = ['T', ':'] then some (.agent .toneSelector)
  else if tok = ['C', ':'] then some (.agent .counter)
  else if tok = ['D', ':'] then some (.agent .display)
  else if tok = ['E', 'N', 'V', ':'] then some .env
  else none

/-- A line of a program or a trace. -/
structure AsmLine where
  agent : Option Context
  op    : Instr
  deriving DecidableEq, Repr

/-- The operation that a mnemonic token and its operand tokens name. -/
def readOp : List (List Char) → Option Instr
  | [] => none
  | tok :: toks =>
    match mnemonicOf tok with
    | none => none
    | some m =>
      match operandOf m toks with
      | none => none
      | some o => AsmStmt.instr? ⟨m, o⟩

/-- Read a line of one operation (R68); none where it is no such line. -/
def readLine (line : String) : Option AsmLine :=
  match tokensFrom line.toList [] with
  | [] => none
  | tok :: toks =>
    match agentTag tok with
    | some c => (readOp toks).map fun i => ⟨some c, i⟩
    | none => (readOp (tok :: toks)).map fun i => ⟨none, i⟩

/-- The pseudo-operation that a line's tokens name (R69). -/
def pseudoOf : List (List Char) → Option Pseudo
  | [name] =>
    if name = "FRAME".toList then some .frame
    else if name = "TSLEEP".toList then some .tsleep
    else if name = "CSLEEP".toList then some .csleep
    else if name = "POLL".toList then some .poll
    else if name = "TITER".toList then some .titer
    else if name = "CITER".toList then some .citer
    else if name = "PRESS".toList then some .press
    else none
  | [name, p] => if name = "WINDOW".toList then (positionOperand p).map .window else none
  | _ => none

/-- Read a line that holds a pseudo-operation, as the operations it expands to (R69). The line
carries no agent in front: R68 writes traces of operations so, and R69 shows no line at all
(DESIGN CHOICE, safe, log 20). -/
def readPseudo (line : String) : Option (List Instr) :=
  (pseudoOf (tokensFrom line.toList [])).map Pseudo.expand

/-- The text of an operand (R68). -/
def operandText : AsmOperand → String
  | .absent => ""
  | .number n => " " ++ Nat.repr n
  | .position .tens => " T"
  | .position .units => " U"

/-- An operation as assembly text (R68). -/
def writeOp (i : Instr) : String := mnemonicText i.stmt.mnemonic ++ operandText i.stmt.operand

/-- The text of a line (R68). -/
def writeLine (l : AsmLine) : String :=
  match l.agent with
  | some (.agent .toneSelector) => "T: " ++ writeOp l.op
  | some (.agent .counter) => "C: " ++ writeOp l.op
  | some (.agent .display) => "D: " ++ writeOp l.op
  | some .env => "ENV: " ++ writeOp l.op
  | some .handler => writeOp l.op
  | none => writeOp l.op

end Sys2Proof.Machine
end

