-- ==== Sys2Proof/Machine/Ports.lean ====
section
/-! DEFINITION. The output ports (spec/10_state.md R31 to R33, spec/30_encoding.md R55). -/

namespace Sys2Proof.Machine

/-- What a port shows: a level or a number, or why it has none. -/
inductive PortRead (α : Type) where
  | shows (x : α)
  | fault (f : Fault)
  | refused (r : Refusal)
  deriving DecidableEq, Repr

/-- A port shows nothing when the platform's setup failed (spec/70_reset_and_hazards.md R145; that it
refuses with `X_CFG` as `step` does is log 7), and nothing in a state outside the ranges of R29 (U13;
log 14). -/
def State.port {α : Type} (s : State) (x : PortRead α) : PortRead α :=
  if s.setupOk then
    if RangesInv s then x else .refused .outOfRange
  else .refused .cfg

/-- A value of the buzzer's ports: an error while the block has not driven the buzzer
(R24, R38, U5; log 21). -/
def State.buzzer {α : Type} (s : State) (x : α) : PortRead α :=
  s.port (if s.buzv then .shows x else .fault .buzzerUndriven)

/-- `seg[i] = SEG[i] xor SEG_ACTIVE_LOW` (R31, R55). -/
def segPins (s : State) : PortRead (BitVec 7) :=
  s.port (.shows (s.seg ^^^ (if s.params.segActiveLow then BitVec.allOnes 7 else 0)))

/-- `dig[j] = DIG[j] xor DIG_ACTIVE_LOW` (R32, R55). -/
def digPins (s : State) : PortRead (BitVec 2) :=
  s.port (.shows (s.dig.bits ^^^ (if s.params.digActiveLow then BitVec.allOnes 2 else 0)))

/-- `buz_freq` = `BUZF` (R33). -/
def buzFreqPin (s : State) : PortRead Hertz := s.buzzer s.buzf

/-- `buz_duty` = `BUZD` (R33). -/
def buzDutyPin (s : State) : PortRead Nat := s.buzzer s.buzd

/-- Whether an event is a firing of the strobe `buz_set` (R33). -/
def Event.isBuzzSet : Event → Bool
  | .buzzSet _ _ => true
  | _ => false

/-- How often the strobe `buz_set` has fired since reset (R33). -/
def buzSetCount (s : State) : Nat := s.trace.countP Event.isBuzzSet

end Sys2Proof.Machine
end

