-- ==== Sys2Proof/Safety.lean ====
section
/-! DEFINITION. The terms claims are stated in: runs of several operations, who owns which register
(spec/10_state.md R15), the two pipelines (spec/00_scope.md R3), counts over the output trace (R35),
and the invariants of the block (R29, spec/44_display_mux.md R108, spec/42_tone_selector.md R91,
R92, spec/43_counter.md R99, R100). -/

namespace Sys2Proof.Machine

/-! ### Runs -/

/-- Execute operations one after another. -/
def execAll : List Instr → State → Host.Outcome State Fault Refusal
  | [], s => .next s
  | i :: is, s =>
    match exec i s with
    | .next t => execAll is t
    | .fault r => .fault r
    | .refused r => .refused r

/-- The operation the next step executes, where its word is one. -/
def State.nextOp (s : State) : Option Instr :=
  match decodeWord s.fetched.2 with
  | .ok i => some i
  | .error _ => none

/-- The queued requests are moves of the step relation of R135, and no word is asked for directly.
The block as built takes no other steps (R67); the schedule's free choices are moves by type. -/
def State.onlyMoves (s : State) : Prop := ∀ r ∈ s.queue, ∃ m, r = Request.move m

/-- The phase counter of an agent, as a number (R27). -/
def State.phase (s : State) : AgentId → Nat
  | .toneSelector => s.pcT.val
  | .counter => s.pcC.val
  | .display => s.pcD.val

/-- `len(PROG_A)` (R66). -/
def programLength : AgentId → Nat
  | .toneSelector => 6
  | .counter => 3
  | .display => 10

/-- The words of the opcode map's unassigned ranges, as R65 lists them. -/
def unassigned (w : Word) : Prop :=
  (0x15 ≤ w.toNat ∧ w.toNat ≤ 0x1F) ∨ (0x25 ≤ w.toNat ∧ w.toNat ≤ 0x2F) ∨
  (0x33 ≤ w.toNat ∧ w.toNat ≤ 0x3F) ∨ w.toNat = 0x41 ∨ (0x48 ≤ w.toNat ∧ w.toNat ≤ 0x4F) ∨
  (0x51 ≤ w.toNat ∧ w.toNat ≤ 0x5F) ∨ (0x60 ≤ w.toNat ∧ w.toNat ≤ 0xFE)

/-- An operation is held: it is not enabled, and no state it gives differs from the one it found
(R11, R136). -/
def Held (i : Instr) (s : State) : Prop :=
  enabled i s = false ∧ ∀ t, exec i s = .next t → t = s

/-- One context and no other may execute an operation (R130). -/
def OnlyIn (c : Context) (i : Instr) : Prop := ∀ c', mayExecute c' i = true ↔ c' = c

/-- Every agent is held, as R115 spells it out: each stands at a `WAITT`, `TWAKE`, `CWAKE` or
`DWAKE` whose condition is false. -/
def AllAgentsHeld (s : State) : Prop :=
  ((s.pcT = 1 ∧ s.pend = false ∧ s.now < s.tmrT) ∨ (s.pcT = 5 ∧ s.now < s.tmrT)) ∧
  (s.pcC = 2 ∧ s.now < s.tmrC) ∧
  ((s.pcD = 4 ∨ s.pcD = 9) ∧ s.now < s.tmrD)

/-! ### Infinite runs and the premises of liveness claims (R135, R137, R138) -/

/-- An infinite run: at every position `n` the schedule makes the move `μ n`, whatever it is, and
the block goes from `σ n` to `σ (n + 1)` (R135, R139). A move whose operation is held leaves the
state as it is (log 4). -/
def IsRun (σ : Nat → State) (μ : Nat → Move) : Prop :=
  ∀ n, step { σ n with queue := [.move (μ n)] } = .next (σ (n + 1))

/-- Weak fairness for an agent (R137): if its operation is enabled from some point on, it is
executed at some later point. -/
def WeaklyFair (a : AgentId) (σ : Nat → State) (μ : Nat → Move) : Prop :=
  ∀ n, (∀ m, n ≤ m → agentEnabled a (σ m) = true) → ∃ m, n ≤ m ∧ μ m = .agent a

/-- Progress of time (R137): `TICK` is executed infinitely often. -/
def TimeProgresses (σ : Nat → State) (μ : Nat → Move) : Prop :=
  ∀ n, ∃ m, n ≤ m ∧ μ m = .tick ∧ enabled .tick (σ m) = true

/-- Whether position `n` of a run completes an operation of an agent. -/
def Completes (σ : Nat → State) (μ : Nat → Move) (a : AgentId) (n : Nat) : Prop :=
  μ n = .agent a ∧ agentEnabled a (σ n) = true

/-! ### Ownership (R15) -/

/-- The registers of R14. -/
inductive Reg where
  | tidx | cnt | pend | got | btnq | val | dgt | seg | dig | buzf | buzd | buzv
  | now | tmrT | tmrC | tmrD | pcT | pcC | pcD
  deriving DecidableEq, Repr

/-- Two states hold the same value in a register. -/
def Reg.same (r : Reg) (s t : State) : Prop :=
  match r with
  | .tidx => t.tidx = s.tidx
  | .cnt => t.cnt = s.cnt
  | .pend => t.pend = s.pend
  | .got => t.got = s.got
  | .btnq => t.btnq = s.btnq
  | .val => t.val = s.val
  | .dgt => t.dgt = s.dgt
  | .seg => t.seg = s.seg
  | .dig => t.dig = s.dig
  | .buzf => t.buzf = s.buzf
  | .buzd => t.buzd = s.buzd
  | .buzv => t.buzv = s.buzv
  | .now => t.now = s.now
  | .tmrT => t.tmrT = s.tmrT
  | .tmrC => t.tmrC = s.tmrC
  | .tmrD => t.tmrD = s.tmrD
  | .pcT => t.pcT = s.pcT
  | .pcC => t.pcC = s.pcC
  | .pcD => t.pcD = s.pcD

/-- The column "written by" of R15's table; `BTN` writes `PEND` through `SIG`. `RST` stands in no
row and writes every register (R141). -/
def Reg.writers : Reg → List Instr
  | .tidx => [.tadv]
  | .cnt => [.cinc]
  | .pend => [.sig, .btn false, .btn true, .wait, .waitt]
  | .got => [.wait, .waitt]
  | .btnq => [.btn false, .btn true]
  | .val => [.dld .tens, .dld .units]
  | .dgt => [.dld .tens, .dld .units]
  | .seg => [.dld .tens, .dld .units]
  | .dig => [.dblk, .den .tens, .den .units]
  | .buzf => [.tdrv]
  | .buzd => [.tdrv]
  | .buzv => [.tdrv]
  | .now => [.tick]
  | .tmrT => [.tarm, .tslp]
  | .tmrC => [.cslp]
  | .tmrD => [.dhld]
  | .pcT => [.tarm, .wait, .waitt, .tadv, .tdrv, .tslp, .twake]
  | .pcC => [.cinc, .cslp, .cwake]
  | .pcD => [.dblk, .dld .tens, .dld .units, .den .tens, .den .units, .dhld, .dwake]

/-- The column "read by" of R15's table, without the reads an operation makes of a register only to
write that register again. -/
def Reg.readers : Reg → List Instr
  | .tidx => [.tadv, .tdrv]
  | .cnt => [.cinc, .dld .tens, .dld .units]
  | .pend => [.wait, .waitt]
  | .got => [.tadv]
  | .btnq => [.btn false, .btn true]
  | .val => [.dld .tens, .dld .units]
  | .dgt => [.dld .tens, .dld .units]
  | .seg => []
  | .dig => []
  | .buzf => []
  | .buzd => []
  | .buzv => []
  | .now => [.tarm, .waitt, .tslp, .twake, .cslp, .cwake, .dhld, .dwake]
  | .tmrT => [.waitt, .twake]
  | .tmrC => [.cwake]
  | .tmrD => [.dwake]
  | .pcT => []
  | .pcC => []
  | .pcD => []

/-- Two states agree on every register but one, and on everything beside the registers. -/
def AgreeBut (r : Reg) (s t : State) : Prop :=
  (∀ q : Reg, q ≠ r → q.same s t) ∧
    t.trace = s.trace ∧ t.btn = s.btn ∧ t.params = s.params ∧ t.setupOk = s.setupOk ∧
      t.queue = s.queue ∧ t.choices = s.choices ∧ t.encResult = s.encResult

/-! ### The two pipelines (R3) -/

/-- The operations of the pipeline from the button to the buzzer. -/
def toneOps : List Instr :=
  [.btn false, .btn true, .sig, .wait, .waitt, .tarm, .tadv, .tdrv, .tslp, .twake]

/-- The operations of the pipeline from the counter to the display. -/
def displayOps : List Instr :=
  [.cinc, .cslp, .cwake, .dblk, .dld .tens, .dld .units, .den .tens, .den .units, .dhld, .dwake]

/-- The registers of the pipeline from the button to the buzzer, with the line. -/
def SameTone (s t : State) : Prop :=
  t.tidx = s.tidx ∧ t.pend = s.pend ∧ t.got = s.got ∧ t.btnq = s.btnq ∧ t.btn = s.btn ∧
    t.buzf = s.buzf ∧ t.buzd = s.buzd ∧ t.buzv = s.buzv ∧ t.tmrT = s.tmrT ∧ t.pcT = s.pcT

/-- The registers of the pipeline from the counter to the display. -/
def SameDisplay (s t : State) : Prop :=
  t.cnt = s.cnt ∧ t.val = s.val ∧ t.dgt = s.dgt ∧ t.seg = s.seg ∧ t.dig = s.dig ∧
    t.tmrC = s.tmrC ∧ t.tmrD = s.tmrD ∧ t.pcC = s.pcC ∧ t.pcD = s.pcD

/-- What the pipelines share: time and the parameters (R139). -/
def SameTime (s t : State) : Prop := t.now = s.now ∧ t.params = s.params

/-! ### Counts over the output trace (R35) -/

def Event.isSig : Event → Bool
  | .sig => true
  | _ => false

def Event.isTake : Event → Bool
  | .take => true
  | _ => false

def Event.isInc : Event → Bool
  | .inc _ => true
  | _ => false

/-- How many falling edges and harness signals were posted since reset. -/
def sigCount (s : State) : Nat := s.trace.countP Event.isSig

/-- `K`, the number of `Take` events (R91). -/
def takeCount (s : State) : Nat := s.trace.countP Event.isTake

/-- The number of `Inc` events (R99). -/
def incCount (s : State) : Nat := s.trace.countP Event.isInc

/-- The falling edges of a line that was last seen at `last` and is then presented at the levels
of a list (R84). -/
def fallingEdges : Bool → List Bool → Nat
  | _, [] => 0
  | last, b :: bs => (if last = true ∧ b = false then 1 else 0) + fallingEdges b bs

/-! ### Invariants -/

/-- R99: the counter is the number of increments modulo 100. -/
def CountInv (s : State) : Prop := s.cnt.val = incCount s % 100

/-- R91 and R94: the tone index is the number of consumed signals modulo 6, but for one that
`WAITT` has taken and `TADV` has not yet counted; and except between `TADV` and `TDRV` a driven
buzzer has the frequency at the index. -/
def ToneInv (s : State) : Prop :=
  (s.pcT = 2 → s.got = true → (s.tidx.val + 1) % 6 = takeCount s % 6) ∧
  (s.pcT ≠ 2 ∨ s.got = false → s.tidx.val = takeCount s % 6) ∧
  (s.pcT ≠ 3 → s.buzv = true → s.buzf = toneAt s.tidx) ∧
  (s.pcT = 4 ∨ s.pcT = 5 → s.buzv = true)

/-- What the next display event must be, as a place in the cycle blank, segments, tens, blank,
segments, units (R101, R108). -/
def displayNext : Option (Fin 6) → Event → Option (Fin 6)
  | some 0, .digSet .blank => some 1
  | some 1, .segSet _ => some 2
  | some 2, .digSet .tens => some 3
  | some 3, .digSet .blank => some 4
  | some 4, .segSet _ => some 5
  | some 5, .digSet .units => some 0
  | _, .digSet _ => none
  | _, .segSet _ => none
  | p, _ => p

/-- The place of a trace in the display cycle; none for a trace in another order, for example one
that changes the segments while a digit is enabled (R108). -/
def displayPhase (tr : List Event) : Option (Fin 6) := tr.foldl displayNext (some 0)

/-- The place in the display cycle that belongs to a phase of `PROG_D`. -/
def phaseOf (pc : Fin 10) : Fin 6 :=
  match pc with
  | 0 => 0
  | 1 => 1
  | 2 => 2
  | 3 => 3
  | 4 => 3
  | 5 => 3
  | 6 => 4
  | 7 => 5
  | 8 => 0
  | 9 => 0

/-- R108: at every phase the select lines are what the phase says, an enabled digit stands over its
own pattern, and the display events so far are in the order blank, segments, enable. -/
def BlankingInv (s : State) : Prop :=
  (s.pcD = 1 ∨ s.pcD = 2 ∨ s.pcD = 6 ∨ s.pcD = 7 → s.dig = .blank) ∧
  (s.pcD = 3 ∨ s.pcD = 4 ∨ s.pcD = 5 → s.dig = .tens) ∧
  (s.pcD = 8 ∨ s.pcD = 9 → s.dig = .units) ∧
  (s.pcD = 0 → s.dig ≠ .tens) ∧
  (s.pcD = 2 ∨ s.dig = .tens → s.dgt = tensDigit s.val ∧ s.seg = encode7 s.params s.dgt) ∧
  (s.pcD = 7 ∨ s.dig = .units → s.dgt = unitsDigit s.val ∧ s.seg = encode7 s.params s.dgt) ∧
  displayPhase s.trace = some (phaseOf s.pcD)

/-- R100, the lower bound: after `k` increments the next `CINC` is not before tick `1000 k`. -/
def CounterPaceInv (s : State) : Prop :=
  (s.pcC = 0 → 1000 * incCount s ≤ s.now) ∧
  (s.pcC = 1 → 1000 * incCount s ≤ s.now + 1000) ∧
  (s.pcC = 2 → 1000 * incCount s ≤ s.tmrC)

/-- R100 with `MAXPROG` = true: the `j`-th `CINC` happens exactly at tick `1000 (j - 1)`. -/
def CounterExactInv (s : State) : Prop :=
  (s.pcC = 0 → s.now = 1000 * incCount s) ∧
  (s.pcC = 1 → s.now + 1000 = 1000 * incCount s) ∧
  (s.pcC = 2 → s.tmrC = 1000 * incCount s ∧ s.now ≤ s.tmrC)

/-- R92 with `MAXPROG` = true, relative to the tick `last` of the last `TDRV`: at every phase, how
late it can be. -/
def RedriveInv (last : Nat) (s : State) : Prop :=
  (s.pcT = 4 → s.now = last) ∧
  (s.pcT = 5 → s.tmrT = last + s.params.tTSleep ∧ s.now ≤ s.tmrT) ∧
  (s.pcT = 0 → s.now ≤ last + s.params.tTSleep) ∧
  (s.pcT = 1 → s.tmrT ≤ last + s.params.tTSleep + s.params.tPoll.ticks ∧ s.now ≤ s.tmrT) ∧
  (s.pcT = 2 ∨ s.pcT = 3 → s.now ≤ last + s.params.tTSleep + s.params.tPoll.ticks)

/-- R111 with `MAXPROG` = true, relative to the tick `start` at which the frame's first `DBLK`
ran: a frame takes two ticks. -/
def FrameInv (start : Nat) (s : State) : Prop :=
  (s.pcD = 1 ∨ s.pcD = 2 ∨ s.pcD = 3 → s.now = start) ∧
  (s.pcD = 4 → s.tmrD = start + 1 ∧ s.now ≤ s.tmrD) ∧
  (s.pcD = 5 ∨ s.pcD = 6 ∨ s.pcD = 7 ∨ s.pcD = 8 → s.now = start + 1) ∧
  (s.pcD = 9 → s.tmrD = start + 2 ∧ s.now ≤ s.tmrD) ∧
  (s.pcD = 0 → s.now = start + 2)

end Sys2Proof.Machine
end

