-- ==== Sys2Proof/Certificates/Slice0/Obligations.lean ====
section
/-! DEFINITION. The statements for the provers. Each says which rule of spec/ it formalises; the
frame of an operation is written `t = { s with … }`, which says that every other register, the
trace, the line, the parameters and the schedule are unchanged. -/

open Sys2Proof Sys2Proof.Machine

/-! ### Encoding -/

/-- 30_encoding.md sections 2 and 3: no bit of an encoding is dropped, for every operation and
every operand value; the bytes after the word are left. -/
def Obligations.DecodeOfEncode : Prop :=
  ∀ (i : Instr), WellFormed i → ∀ rest, decodeBytes (encode i ++ rest) = .ok (i, rest)

/-- R70: the decoder answers one operation or "invalid" for every word, and the words R70 names
decode as it says. -/
def Obligations.DecoderIsTotalAndExact : Prop :=
  (∀ w i, decodeWord w = .ok i ↔ encodeWord i = w) ∧
  (∀ w, (∀ i, encodeWord i ≠ w) ↔ decodeWord w = .error (.invalid w)) ∧
  decodeWord 0x10 = .ok (.btn false) ∧ decodeWord 0x11 = .ok (.btn true) ∧
  decodeWord 0x42 = .ok (.dld .tens) ∧ decodeWord 0x43 = .ok (.dld .units) ∧
  decodeWord 0x44 = .ok (.den .tens) ∧ decodeWord 0x45 = .ok (.den .units) ∧
  (∀ d : DigitCode, decodeWord (BitVec.ofNat 8 d.val) = .ok (.enc d)) ∧
  decodeWord 0x41 = .error (.invalid 0x41)

/-- R65: the unassigned words are exactly those the decoder calls invalid, none stands in a
program, and a request to execute one is refused with `X_BADOP`. -/
def Obligations.UnassignedWordsAreRefused : Prop :=
  (∀ w, unassigned w ↔ decodeWord w = .error (.invalid w)) ∧
  (∀ a s, ¬ unassigned (fetchWord a s)) ∧
  (∀ (s : State) c w, s.setupOk = true → s.nextRequest = .asked c w → unassigned w →
    step s = .refused (.badOp w))

/-- 95_test_vectors.md V-DEC: one word of each unit, written out from R64. -/
def Obligations.OpcodeMapSampleWords : Prop :=
  decodeWord 0b00001001 = .ok (.enc 9) ∧ decodeWord 0b00010010 = .ok .sig ∧
  decodeWord 0b00100010 = .ok .tdrv ∧ decodeWord 0b00110000 = .ok .cinc ∧
  decodeWord 0b01000110 = .ok .dhld ∧ decodeWord 0b01010000 = .ok .tick ∧
  decodeWord 0b11111111 = .ok .rst ∧ decodeWord 0b11110000 = .error (.invalid 0xF0)

/-- R68: reading the text of an operation gives the operation, alone and with its agent in
front. -/
def Obligations.AssemblyTextRoundTrip : Prop :=
  ∀ i : Instr, readLine (writeLine ⟨none, i⟩) = some ⟨none, i⟩ ∧
    readLine (writeLine ⟨some (contextFor i), i⟩) = some ⟨some (contextFor i), i⟩

/-! ### The step -/

/-- R135, R45: in a state within its ranges (log 14) a step executes the operation that the requested
word decodes to, in a context that may execute it, on the state with the request taken off; what each
request asks for. The queue and the count of free choices are the model's own (log 3). -/
def Obligations.StepExecutesDecodedWord : Prop :=
  (∀ (s : State) i, s.setupOk = true → RangesInv s → decodeWord s.fetched.2 = .ok i →
    mayExecute s.fetched.1 i = true → step s = exec i s.consume) ∧
  (∀ (s : State) r rest, s.queue = r :: rest →
    s.consume = { s with queue := rest } ∧
    (∀ b, r = .move (.btn b) → s.fetched = (.env, encodeWord (.btn b))) ∧
    (r = .move .tick → s.fetched = (.env, encodeWord .tick)) ∧
    (∀ a, r = .move (.agent a) → s.fetched = (.agent a, fetchWord a s)) ∧
    (∀ c w, r = .asked c w → s.fetched = (c, w))) ∧
  (∀ s : State, s.queue = [] →
    s.consume = { s with choices := s.choices + 1 } ∧
    s.nextRequest = .move (Config.freeMove s.choices))

/-- R27: the agent executes the operation at its phase counter; a completed operation of agent `A`
adds one modulo the length of its program; a held one leaves it; nothing else but reset changes it. -/
def Obligations.PhaseCountersOnlyAdvance : Prop :=
  (∀ (s : State) a rest, s.queue = .move (.agent a) :: rest → s.fetched = (.agent a, fetchWord a s)) ∧
  (∀ i s t a, exec i s = .next t → i ≠ .rst →
    t.phase a =
      if contextFor i = .agent a ∧ enabled i s = true then (s.phase a + 1) % programLength a
      else s.phase a) ∧
  (∀ s t a, exec .rst s = .next t → t.phase a = 0)

/-- R136: which operations are always enabled, when the others are, and that a held operation
changes nothing. That a held request is a step that changes nothing is the model's choice
(log 4). -/
def Obligations.HeldOperationsChangeNothing : Prop :=
  ∀ s : State,
    (∀ i, i ∈ [Instr.btn false, .btn true, .sig, .tarm, .tadv, .tdrv, .tslp, .cinc, .cslp, .dblk,
        .dld .tens, .dld .units, .den .tens, .den .units, .dhld] → enabled i s = true) ∧
    (enabled .wait s = true ↔ s.pend = true) ∧
    (enabled .waitt s = true ↔ s.pend = true ∨ s.tmrT ≤ s.now) ∧
    (enabled .twake s = true ↔ s.tmrT ≤ s.now) ∧
    (enabled .cwake s = true ↔ s.tmrC ≤ s.now) ∧
    (enabled .dwake s = true ↔ s.tmrD ≤ s.now) ∧
    (enabled .tick s = true ↔ s.params.maxProg = false ∨ AllAgentsHeld s) ∧
    (∀ i, enabled i s = false → exec i s = .next s)

/-- R136: no operation of another agent lifts a hold. -/
def Obligations.OtherAgentsNeverLiftAHold : Prop :=
  ∀ i j (s t : State), i ∈ [Instr.wait, .waitt, .twake, .cwake, .dwake] →
    contextFor j ≠ .env → contextFor j ≠ contextFor i →
    enabled i s = false → exec j s = .next t → enabled i t = false

/-! ### Reset -/

/-- R36: the value of every register after reset. `BUZF` and `BUZD` are unspecified, guarded by
`BUZV` (R38). -/
def Obligations.ResetStateValues : Prop :=
  State.reset.tidx.val = 0 ∧ State.reset.cnt.val = 0 ∧ State.reset.pend = false ∧
  State.reset.got = false ∧ State.reset.btnq = State.reset.btn ∧ State.reset.val.val = 0 ∧
  State.reset.dgt.val = 0 ∧ State.reset.seg = 0 ∧ State.reset.dig.bits = 0b00 ∧
  State.reset.buzv = false ∧ State.reset.now = 0 ∧ State.reset.tmrT = 0 ∧
  State.reset.tmrC = 0 ∧ State.reset.tmrD = 0 ∧ State.reset.pcT.val = 0 ∧
  State.reset.pcC.val = 0 ∧ State.reset.pcD.val = 0 ∧ State.reset.trace = []

/-- R141: `RST` gives the reset state, with `BTNQ` at the line's level now. -/
def Obligations.RstGivesTheResetState : Prop :=
  decodeWord 0xFF = .ok .rst ∧ OnlyIn .env .rst ∧
  ∀ s : State, ∃ t, exec .rst s = .next t ∧
    t.tidx.val = 0 ∧ t.cnt.val = 0 ∧ t.pend = false ∧ t.got = false ∧ t.btnq = s.btn ∧
    t.val.val = 0 ∧ t.dgt.val = 0 ∧ t.seg = 0 ∧ t.dig.bits = 0b00 ∧ t.buzv = false ∧
    t.now = 0 ∧ t.tmrT = 0 ∧ t.tmrC = 0 ∧ t.tmrD = 0 ∧ t.pcT.val = 0 ∧ t.pcC.val = 0 ∧
    t.pcD.val = 0 ∧ t.trace = []

/-- What is no register of the block, which is the model's choice (log 1, 3, 7, 8, 11, 13): `BTN`
alone moves the line, `ENC` alone leaves a result and `RST` alone forgets it, and no operation
changes a parameter, the setup's outcome or the schedule. -/
def Obligations.OperationsKeepWhatIsNoRegister : Prop :=
  ∀ i (s t : State), exec i s = .next t →
    (∀ b, i = .btn b → t.btn = b) ∧ ((∀ b, i ≠ .btn b) → t.btn = s.btn) ∧
    (i = .rst → t.encResult = none) ∧
    ((∀ d, i ≠ .enc d) → i ≠ .rst → t.encResult = s.encResult) ∧
    t.params = s.params ∧ t.setupOk = s.setupOk ∧ t.queue = s.queue ∧ t.choices = s.choices

/-- R37: after reset the three agents stand at `TARM`, `CINC` and `DBLK`, all three are enabled,
and any of them may take the first step. -/
def Obligations.AgentsStartAtTheirFirstOperation : Prop :=
  decodeWord (fetchWord .toneSelector State.reset) = .ok .tarm ∧
  decodeWord (fetchWord .counter State.reset) = .ok .cinc ∧
  decodeWord (fetchWord .display State.reset) = .ok .dblk ∧
  (∀ a, agentEnabled a State.reset = true) ∧
  (∀ a, ∃ t, step { State.reset with queue := [.move (.agent a)] } = .next t ∧ t.phase a = 1)

/-- R145: a block whose setup failed never executes a step and is refused with `X_CFG`, and no port
shows anything; after a successful setup no operation can fail, and in a state within its ranges no
move of the block is refused. -/
def Obligations.SetupDecidesWhetherTheBlockRuns : Prop :=
  (∀ s : State, s.setupOk = false → step s = .refused .cfg ∧
    (∀ p, segPins s ≠ .shows p) ∧ (∀ p, digPins s ≠ .shows p) ∧
    (∀ f, buzFreqPin s ≠ .shows f) ∧ ∀ d, buzDutyPin s ≠ .shows d) ∧
  (∀ i (s : State), ∃ t, exec i s = .next t ∧ t.setupOk = s.setupOk) ∧
  (∀ s : State, s.setupOk = true → RangesInv s → s.onlyMoves → ∃ t, step s = .next t)

/-! ### Segment encoder and channel -/

/-- R72: `ENC d` gives entry `d` of the table, for every digit code, and changes no register, phase
counter or event; the result depends on `d` and the table alone. Where the result is put is the
model's choice (log 8). -/
def Obligations.EncGivesTheTableEntry : Prop :=
  (∀ d : DigitCode, decodeWord (BitVec.ofNat 8 d.val) = .ok (.enc d)) ∧
  (∀ a s d, decodeWord (fetchWord a s) ≠ .ok (.enc d)) ∧
  ∀ (d : DigitCode) (s : State), ∃ t, exec (.enc d) s = .next t ∧
    t.encResult = some s.params.segTable[d] ∧ t = { s with encResult := t.encResult }

/-- R76: `BTN b` at every level: a falling edge signals, no other level change does, and `BTNQ`
becomes `b`. The frame leaves out the line itself, which is no register of the block. -/
def Obligations.BtnSignalsOnTheFallingEdge : Prop :=
  decodeWord 0x10 = .ok (.btn false) ∧ decodeWord 0x11 = .ok (.btn true) ∧
  State.reset.btnq = State.reset.btn ∧
  ∀ b, OnlyIn .env (.btn b) ∧ ∀ s : State, enabled (.btn b) s = true ∧
    ∃ t, exec (.btn b) s = .next t ∧ t.btnq = b ∧
      (if s.btnq = true ∧ b = false then t.pend = true ∧ t.trace = s.trace ++ [.sig]
       else t.pend = s.pend ∧ t.trace = s.trace) ∧
      t = { s with btnq := t.btnq, btn := t.btn, pend := t.pend, trace := t.trace }

/-- R77: `SIG` sets `PEND`, whatever it was, and emits its event. -/
def Obligations.SigPostsASignal : Prop :=
  decodeWord 0x12 = .ok .sig ∧
  (∀ c, mayExecute c .sig = true ↔ c = .env ∨ c = .handler) ∧
  ∀ s : State, enabled .sig s = true ∧ ∃ t, exec .sig s = .next t ∧
    t.pend = true ∧ t.trace = s.trace ++ [.sig] ∧
    t = { s with pend := t.pend, trace := t.trace }

/-- R78: `WAIT` takes a pending signal, and is held without one; only a signal, by `SIG` or by a
falling edge, lifts the hold. -/
def Obligations.WaitTakesThePendingSignal : Prop :=
  decodeWord 0x13 = .ok .wait ∧ OnlyIn (.agent .toneSelector) .wait ∧
  (∀ a s, decodeWord (fetchWord a s) ≠ .ok .wait) ∧
  (∀ s : State, s.pend = true → ∃ t, exec .wait s = .next t ∧
    t.pend = false ∧ t.got = true ∧ t.trace = s.trace ++ [.take] ∧
    t.pcT.val = (s.pcT.val + 1) % 6 ∧
    t = { s with pend := t.pend, got := t.got, trace := t.trace, pcT := t.pcT }) ∧
  (∀ s : State, s.pend = false → Held .wait s) ∧
  (∀ i (s t : State), s.pend = false → exec i s = .next t → i ≠ .sig →
    ¬ (i = .btn false ∧ s.btnq = true) → Held .wait t)

/-- R79: `WAITT` takes a pending signal even when the deadline has passed, ends by its timeout when
it has passed with nothing pending, and is held otherwise. -/
def Obligations.WaittTakesTimesOutOrIsHeld : Prop :=
  decodeWord 0x14 = .ok .waitt ∧ OnlyIn (.agent .toneSelector) .waitt ∧
  (∀ s, decodeWord (fetchWord .toneSelector s) = .ok .waitt ↔ s.pcT = 1) ∧
  (∀ s : State, s.pend = true → ∃ t, exec .waitt s = .next t ∧
    t.pend = false ∧ t.got = true ∧ t.trace = s.trace ++ [.take] ∧
    t.pcT.val = (s.pcT.val + 1) % 6 ∧
    t = { s with pend := t.pend, got := t.got, trace := t.trace, pcT := t.pcT }) ∧
  (∀ s : State, s.pend = false → s.tmrT ≤ s.now → ∃ t, exec .waitt s = .next t ∧
    t.pend = false ∧ t.got = false ∧ t.trace = s.trace ++ [.timeout] ∧
    t.pcT.val = (s.pcT.val + 1) % 6 ∧
    t = { s with got := t.got, trace := t.trace, pcT := t.pcT }) ∧
  (∀ s : State, s.pend = false → s.now < s.tmrT → Held .waitt s)

/-- R80: any number of signals, by `SIG` or by falling edges, with no wait between them and whatever
else in between, is taken as one; and the number is not recoverable: with one signal pending, every
further `SIG` may be left out and only the trace shows it. -/
def Obligations.SignalsCoalesce : Prop :=
  (∀ is (s : State), (∀ i ∈ is, i ∉ [Instr.wait, .waitt, .rst]) → ∃ u, execAll is s = .next u ∧
    (.sig ∈ is → sigCount s < sigCount u) ∧
    (sigCount s < sigCount u → u.pend = true ∧ ∃ t, exec .waitt u = .next t ∧
      t.got = true ∧ t.pend = false ∧ takeCount t = takeCount s + 1 ∧ Held .wait t ∧
      (t.now < t.tmrT → Held .waitt t))) ∧
  (∀ is (s u v : State), (∀ i ∈ is, i ∉ [Instr.wait, .waitt, .rst]) →
    execAll (.sig :: is) s = .next u → execAll (.sig :: is.filter (· ≠ .sig)) s = .next v →
    v = { u with trace := v.trace })

/-- 20_memory.md section 4, 41_edge_channel.md section 3 (the spec's own inference there): a signal
stays until a wait, whatever else is executed, and that wait takes it. -/
def Obligations.SignalsAreKeptUntilAWait : Prop :=
  ∀ is (s : State), (∀ i ∈ is, i ∉ [Instr.wait, .waitt, .rst]) →
    ∃ u, execAll (.sig :: is) s = .next u ∧ u.pend = true ∧
      ∃ t, exec .waitt u = .next t ∧ t.got = true ∧ t.pend = false

/-- R84: of any sequence of levels, exactly the falling edges signal. -/
def Obligations.EachFallingEdgeSignalsOnce : Prop :=
  ∀ bs (s : State), ∃ t, execAll (bs.map .btn) s = .next t ∧
    sigCount t = sigCount s + fallingEdges s.btnq bs ∧
    t.pend = (s.pend || decide (0 < fallingEdges s.btnq bs)) ∧
    t.btnq = (s.btnq :: bs).getLast (by simp)

/-- R126: taking the interrupt saves nothing and changes no register but `PEND`; it happens inside
the `BTN` step, and every agent goes on where it was. -/
def Obligations.InterruptEntrySavesNothing : Prop :=
  ∀ s : State,
    s.takeInterrupt = { s with pend := true, trace := s.trace ++ [.sig] } ∧
    (∀ a, s.takeInterrupt.phase a = s.phase a) ∧
    (s.btnq = true → ∃ t, exec (.btn false) s = .next t ∧ t.btnq = false ∧
      t = { s.takeInterrupt with btnq := t.btnq, btn := t.btn })

/-! ### Tone selector -/

/-- R86: `TARM` writes the deadline of the wait. -/
def Obligations.TarmSetsTheWaitDeadline : Prop :=
  decodeWord 0x20 = .ok .tarm ∧ OnlyIn (.agent .toneSelector) .tarm ∧
  (∀ s, decodeWord (fetchWord .toneSelector s) = .ok .tarm ↔ s.pcT = 0) ∧
  ∀ s : State, enabled .tarm s = true ∧ ∃ t, exec .tarm s = .next t ∧
    t.tmrT = s.now + s.params.tPoll.ticks ∧
    (s.params.tPoll.ticks = 15 ∨ s.params.tPoll.ticks = 16) ∧
    t.pcT.val = (s.pcT.val + 1) % 6 ∧ t = { s with tmrT := t.tmrT, pcT := t.pcT }

/-- R87: `TADV` advances the index modulo 6 exactly when the wait took a signal. -/
def Obligations.TadvAdvancesOnATakenSignal : Prop :=
  decodeWord 0x21 = .ok .tadv ∧ OnlyIn (.agent .toneSelector) .tadv ∧
  (∀ s, decodeWord (fetchWord .toneSelector s) = .ok .tadv ↔ s.pcT = 2) ∧
  ∀ s : State, enabled .tadv s = true ∧ ∃ t, exec .tadv s = .next t ∧
    (if s.got = true then t.tidx.val = (s.tidx.val + 1) % 6 else t.tidx = s.tidx) ∧
    t.pcT.val = (s.pcT.val + 1) % 6 ∧ t = { s with tidx := t.tidx, pcT := t.pcT }

/-- R88: `TDRV` presents the tone at the index and the duty cycle, unconditionally. -/
def Obligations.TdrvPresentsTheSelectedTone : Prop :=
  decodeWord 0x22 = .ok .tdrv ∧ OnlyIn (.agent .toneSelector) .tdrv ∧
  (∀ s, decodeWord (fetchWord .toneSelector s) = .ok .tdrv ↔ s.pcT = 3) ∧
  ∀ s : State, enabled .tdrv s = true ∧ ∃ t, exec .tdrv s = .next t ∧
    t.buzf.toNat = [500, 1000, 1500, 2000, 3000, 9500].getD s.tidx.val 0 ∧
    t.buzd = s.params.duty ∧ t.buzv = true ∧
    t.trace = s.trace ++ [.buzzSet t.buzf s.params.duty] ∧
    t.pcT.val = (s.pcT.val + 1) % 6 ∧
    t = { s with buzf := t.buzf, buzd := t.buzd, buzv := t.buzv, trace := t.trace, pcT := t.pcT }

/-- R89: `TSLP` starts the sleep, whose length is the open parameter. -/
def Obligations.TslpStartsTheSleep : Prop :=
  decodeWord 0x23 = .ok .tslp ∧ OnlyIn (.agent .toneSelector) .tslp ∧
  (∀ s, decodeWord (fetchWord .toneSelector s) = .ok .tslp ↔ s.pcT = 4) ∧
  ∀ s : State, enabled .tslp s = true ∧ ∃ t, exec .tslp s = .next t ∧
    t.tmrT = s.now + s.params.tTSleep ∧ t.pcT.val = (s.pcT.val + 1) % 6 ∧
    (s.params.tTSleep = 0 → enabled .twake t = true) ∧
    t = { s with tmrT := t.tmrT, pcT := t.pcT }

/-- R90: `TWAKE` ends the sleep at its deadline and is held before it. -/
def Obligations.TwakeEndsTheSleep : Prop :=
  decodeWord 0x24 = .ok .twake ∧ OnlyIn (.agent .toneSelector) .twake ∧
  (∀ s, decodeWord (fetchWord .toneSelector s) = .ok .twake ↔ s.pcT = 5) ∧
  (∀ s : State, s.tmrT ≤ s.now → ∃ t, exec .twake s = .next t ∧
    t.pcT.val = (s.pcT.val + 1) % 6 ∧ t = { s with pcT := t.pcT }) ∧
  (∀ s : State, s.now < s.tmrT → Held .twake s)

/-! ### Counter -/

/-- R96: `CINC` increments modulo 100 and reports the new value. -/
def Obligations.CincIncrementsModulo100 : Prop :=
  decodeWord 0x30 = .ok .cinc ∧ OnlyIn (.agent .counter) .cinc ∧
  (∀ s, decodeWord (fetchWord .counter s) = .ok .cinc ↔ s.pcC = 0) ∧
  ∀ s : State, enabled .cinc s = true ∧ ∃ t, exec .cinc s = .next t ∧
    t.cnt.val = (s.cnt.val + 1) % 100 ∧ t.trace = s.trace ++ [.inc t.cnt] ∧
    t.pcC.val = (s.pcC.val + 1) % 3 ∧
    t = { s with cnt := t.cnt, trace := t.trace, pcC := t.pcC }

/-- R97: `CSLP` starts a sleep of 1000 ticks from this operation. -/
def Obligations.CslpStartsTheSecond : Prop :=
  decodeWord 0x31 = .ok .cslp ∧ OnlyIn (.agent .counter) .cslp ∧
  (∀ s, decodeWord (fetchWord .counter s) = .ok .cslp ↔ s.pcC = 1) ∧
  ∀ s : State, enabled .cslp s = true ∧ ∃ t, exec .cslp s = .next t ∧
    t.tmrC = s.now + 1000 ∧ t.pcC.val = (s.pcC.val + 1) % 3 ∧
    t = { s with tmrC := t.tmrC, pcC := t.pcC }

/-- R98: `CWAKE` ends the sleep at its deadline and is held before it. -/
def Obligations.CwakeEndsTheSecond : Prop :=
  decodeWord 0x32 = .ok .cwake ∧ OnlyIn (.agent .counter) .cwake ∧
  (∀ s, decodeWord (fetchWord .counter s) = .ok .cwake ↔ s.pcC = 2) ∧
  (∀ s : State, s.tmrC ≤ s.now → ∃ t, exec .cwake s = .next t ∧
    t.pcC.val = (s.pcC.val + 1) % 3 ∧ t = { s with pcC := t.pcC }) ∧
  (∀ s : State, s.now < s.tmrC → Held .cwake s)

/-! ### Display -/

/-- R102: `DBLK` disables both digits and leaves the segments. -/
def Obligations.DblkBlanksTheDisplay : Prop :=
  decodeWord 0x40 = .ok .dblk ∧ OnlyIn (.agent .display) .dblk ∧
  (∀ s, decodeWord (fetchWord .display s) = .ok .dblk ↔ s.pcD = 0 ∨ s.pcD = 5) ∧
  ∀ s : State, enabled .dblk s = true ∧ ∃ t, exec .dblk s = .next t ∧
    t.dig.bits = 0b00 ∧ t.trace = s.trace ++ [.digSet t.dig] ∧
    t.pcD.val = (s.pcD.val + 1) % 10 ∧
    t = { s with dig := t.dig, trace := t.trace, pcD := t.pcD }

/-- R103: `DLD p`, for both positions and both values of `SNAPSHOT`. -/
def Obligations.DldLoadsOneDecimalDigit : Prop :=
  decodeWord 0x42 = .ok (.dld .tens) ∧ decodeWord 0x43 = .ok (.dld .units) ∧
  (∀ p, OnlyIn (.agent .display) (.dld p)) ∧
  (∀ s, decodeWord (fetchWord .display s) = .ok (.dld .tens) ↔ s.pcD = 1) ∧
  (∀ s, decodeWord (fetchWord .display s) = .ok (.dld .units) ↔ s.pcD = 6) ∧
  ∀ p (s : State), enabled (.dld p) s = true ∧ ∃ t, exec (.dld p) s = .next t ∧
    (if p = .tens ∨ s.params.snapshot = false then t.val = s.cnt else t.val = s.val) ∧
    (if p = .tens then t.dgt.val = t.val.val / 10 else t.dgt.val = t.val.val % 10) ∧
    t.seg = s.params.segTable[t.dgt] ∧ t.trace = s.trace ++ [.segSet t.seg] ∧
    t.pcD.val = (s.pcD.val + 1) % 10 ∧
    t = { s with val := t.val, dgt := t.dgt, seg := t.seg, trace := t.trace, pcD := t.pcD }

/-- R104: `DEN p` enables one digit and no other. -/
def Obligations.DenEnablesOneDigit : Prop :=
  decodeWord 0x44 = .ok (.den .tens) ∧ decodeWord 0x45 = .ok (.den .units) ∧
  (∀ p, OnlyIn (.agent .display) (.den p)) ∧
  (∀ s, decodeWord (fetchWord .display s) = .ok (.den .tens) ↔ s.pcD = 2) ∧
  (∀ s, decodeWord (fetchWord .display s) = .ok (.den .units) ↔ s.pcD = 7) ∧
  ∀ p (s : State), enabled (.den p) s = true ∧ ∃ t, exec (.den p) s = .next t ∧
    t.dig.bits = (if p = .tens then 0b10 else 0b01) ∧ t.trace = s.trace ++ [.digSet t.dig] ∧
    t.pcD.val = (s.pcD.val + 1) % 10 ∧
    t = { s with dig := t.dig, trace := t.trace, pcD := t.pcD }

/-- R105: `DHLD` starts the illumination window of one tick. -/
def Obligations.DhldStartsTheWindow : Prop :=
  decodeWord 0x46 = .ok .dhld ∧ OnlyIn (.agent .display) .dhld ∧
  (∀ s, decodeWord (fetchWord .display s) = .ok .dhld ↔ s.pcD = 3 ∨ s.pcD = 8) ∧
  ∀ s : State, enabled .dhld s = true ∧ ∃ t, exec .dhld s = .next t ∧
    t.tmrD = s.now + 1 ∧ t.pcD.val = (s.pcD.val + 1) % 10 ∧
    t = { s with tmrD := t.tmrD, pcD := t.pcD }

/-- R106: `DWAKE` ends the window at its deadline and is held before it. -/
def Obligations.DwakeEndsTheWindow : Prop :=
  decodeWord 0x47 = .ok .dwake ∧ OnlyIn (.agent .display) .dwake ∧
  (∀ s, decodeWord (fetchWord .display s) = .ok .dwake ↔ s.pcD = 4 ∨ s.pcD = 9) ∧
  (∀ s : State, s.tmrD ≤ s.now → ∃ t, exec .dwake s = .next t ∧
    t.pcD.val = (s.pcD.val + 1) % 10 ∧ t = { s with pcD := t.pcD }) ∧
  (∀ s : State, s.now < s.tmrD → Held .dwake s)

/-- R107: the two digits of a value are decimal digits that determine it, with the rule's four
instances. -/
def Obligations.DigitsDetermineTheValue : Prop :=
  (∀ v : Fin 100, (tensDigit v).val = v.val / 10 ∧ (unitsDigit v).val = v.val % 10 ∧
    (tensDigit v).val ≤ 9 ∧ (unitsDigit v).val ≤ 9 ∧
    v.val = 10 * (tensDigit v).val + (unitsDigit v).val) ∧
  (∀ v w : Fin 100, tensDigit v = tensDigit w → unitsDigit v = unitsDigit w → v = w) ∧
  (tensDigit 0, unitsDigit 0) = (0, 0) ∧ (tensDigit 9, unitsDigit 9) = (0, 9) ∧
  (tensDigit 10, unitsDigit 10) = (1, 0) ∧ (tensDigit 99, unitsDigit 99) = (9, 9)

/-- 44_display_mux.md section 3 (the spec's own inference there): the two digits of a frame come
from two reads unless `SNAPSHOT`, whatever is executed between them; with one increment between the
reads the frame shows neither value exactly when the first ends in 9. -/
def Obligations.FramesMayStraddleAnIncrement : Prop :=
  (∀ is (s t u v : State), exec (.dld .tens) s = .next t →
    (∀ i ∈ is, i ∉ [Instr.dld .tens, .dld .units, .rst]) → execAll is t = .next u →
    exec (.dld .units) u = .next v →
    t.dgt = tensDigit s.cnt ∧
      v.dgt = unitsDigit (if s.params.snapshot = true then s.cnt else u.cnt)) ∧
  (∀ v w : Fin 100, w = cycle v →
    ((10 * (tensDigit v).val + (unitsDigit w).val ≠ v.val ∧
      10 * (tensDigit v).val + (unitsDigit w).val ≠ w.val) ↔ v.val % 10 = 9))

/-! ### Time -/

/-- R113: `TICK` advances time by one, always when `MAXPROG` is false, and else only with every
agent held. -/
def Obligations.TickAdvancesTime : Prop :=
  decodeWord 0x50 = .ok .tick ∧ OnlyIn .env .tick ∧
  (∀ s : State, s.params.maxProg = false ∨ AllAgentsHeld s →
    exec .tick s = .next { s with now := s.now + 1 }) ∧
  (∀ s : State, s.params.maxProg = true → ¬ AllAgentsHeld s → Held .tick s)

/-- R114: an operation that starts a delay of `n` ticks writes the deadline; the delay ends only after
time has advanced by `n`, which takes at least `n` executions of `TICK`, whatever else is executed in
between, for the four delays; for the wait, when no signal ends it earlier. -/
def Obligations.DelaysAreLowerBounds : Prop :=
  (∀ is (s u : State), (∀ i ∈ is, i ∉ [Instr.tarm, .tslp, .rst]) →
    execAll (.tarm :: is) s = .next u → u.pend = false → enabled .waitt u = true →
    s.now + s.params.tPoll.ticks ≤ u.now ∧ s.params.tPoll.ticks ≤ is.count .tick) ∧
  (∀ is (s u : State), (∀ i ∈ is, i ∉ [Instr.tarm, .tslp, .rst]) →
    execAll (.tslp :: is) s = .next u → enabled .twake u = true →
    s.now + s.params.tTSleep ≤ u.now ∧ s.params.tTSleep ≤ is.count .tick) ∧
  (∀ is (s u : State), (∀ i ∈ is, i ∉ [Instr.cslp, .rst]) →
    execAll (.cslp :: is) s = .next u → enabled .cwake u = true →
    s.now + 1000 ≤ u.now ∧ 1000 ≤ is.count .tick) ∧
  (∀ is (s u : State), (∀ i ∈ is, i ∉ [Instr.dhld, .rst]) →
    execAll (.dhld :: is) s = .next u → enabled .dwake u = true →
    s.now + 1 ≤ u.now ∧ 1 ≤ is.count .tick) ∧
  (∀ s : State, ∃ t u v w, exec .tarm s = .next t ∧ t.tmrT = s.now + s.params.tPoll.ticks ∧
    exec .tslp s = .next u ∧ u.tmrT = s.now + s.params.tTSleep ∧
    (s.params.tTSleep = 0 → enabled .twake u = true) ∧
    exec .cslp s = .next v ∧ v.tmrC = s.now + 1000 ∧
    exec .dhld s = .next w ∧ w.tmrD = s.now + 1)

/-- 45_time_base.md, the rule on `MAXPROG` (the spec's own inference there): from every
state within its ranges there is a schedule of at most 19 moves of the agents, and none of the
environment, after which all are held, at the same tick; so time can always go on. -/
def Obligations.AgentsAlwaysComeToRest : Prop :=
  ∀ s : State, s.setupOk = true → RangesInv s → ∃ as : List AgentId, as.length ≤ 19 ∧ ∃ t,
    Host.Core.run core as.length { s with queue := as.map fun a => .move (.agent a) } = .next t ∧
    AllAgentsHeld t ∧ t.now = s.now

/-! ### Contexts -/

/-- R120: no program but `PROG_T` waits on the channel, and a second agent that would is refused
with `X_MULTIWAIT`. -/
def Obligations.SecondWaiterIsRefused : Prop :=
  (∀ a s, a ≠ .toneSelector → decodeWord (fetchWord a s) ≠ .ok .wait ∧
    decodeWord (fetchWord a s) ≠ .ok .waitt) ∧
  ∀ (s : State) a i, s.setupOk = true → a ≠ .toneSelector → i = .wait ∨ i = .waitt →
    s.nextRequest = .asked (.agent a) (encodeWord i) → step s = .refused .multiWait

/-- 60_exceptions.md section 3, 30_encoding.md section 3: the handler may execute `SIG` and nothing
else, an agent its own program, and every other pair is refused. Which of `X_CTX` and `X_MULTIWAIT`
answers, and what the environment and the agents may evaluate, are the model's reading (log 9). -/
def Obligations.WrongContextIsRefused : Prop :=
  (∀ i, mayExecute .handler i = true ↔ i = .sig) ∧
  (∀ a s i, decodeWord (fetchWord a s) = .ok i → mayExecute (.agent a) i = true) ∧
  (∀ a i, mayExecute (.agent a) i = true → contextFor i = .agent a ∨ ∃ d, i = .enc d) ∧
  (∀ (s : State) c i, s.setupOk = true → s.nextRequest = .asked c (encodeWord i) →
    mayExecute c i = false →
    step s = .refused .ctx ∨
      (step s = .refused .multiWait ∧ (i = .wait ∨ i = .waitt) ∧ ∃ a, c = .agent a))

/-! ### Ownership and independence -/

/-- 10_state.md section 1, the column "written by": no other operation changes a register. -/
def Obligations.OnlyWritersChangeARegister : Prop :=
  ∀ (r : Reg) i (s t : State), exec i s = .next t → i ≠ .rst → i ∉ r.writers → r.same s t

/-- 10_state.md section 1, the column "read by": a register an operation does not read has no
influence on anything else it leaves. `TICK` is the exception under `MAXPROG`, where it also looks
at what the agents wait for (R113). -/
def Obligations.OnlyReadersDependOnARegister : Prop :=
  ∀ (r : Reg) i (s s' t t' : State), i ≠ .rst → i ∉ r.readers →
    (i = .tick → s.params.maxProg = false) → AgreeBut r s s' → exec i s = .next t →
    exec i s' = .next t' → AgreeBut r t t'

/-- R3: no operation of one pipeline reads or writes a register of the other. -/
def Obligations.PipelinesShareNoState : Prop :=
  (∀ i (s t : State), i ∈ toneOps → exec i s = .next t → SameDisplay s t) ∧
  (∀ i (s t : State), i ∈ displayOps → exec i s = .next t → SameTone s t) ∧
  (∀ i (s s' t t' : State), i ∈ toneOps → SameTone s s' → SameTime s s' →
    exec i s = .next t → exec i s' = .next t' → SameTone t t') ∧
  (∀ i (s s' t t' : State), i ∈ displayOps → SameDisplay s s' → SameTime s s' →
    exec i s = .next t → exec i s' = .next t' → SameDisplay t t')

/-- 60_exceptions.md section 5 (the spec's own inference there): operations of the two pipelines
commute, but for the order of their events. -/
def Obligations.StepsOfThePipelinesCommute : Prop :=
  ∀ i j (s : State), i ∈ toneOps → j ∈ displayOps → ∃ a b c d,
    exec i s = .next a ∧ exec j a = .next b ∧ exec j s = .next c ∧ exec i c = .next d ∧
    b = { d with trace := b.trace } ∧ b.trace.Perm d.trace

/-- 20_memory.md section 1, 10_state.md section 4: no step writes a table or another parameter, which
are constants of the machine (log 1); nor the setup's outcome, which is the model's field (log 7). -/
def Obligations.TablesAreImmutable : Prop :=
  ∀ s t : State, step s = .next t → t.params = s.params ∧ t.setupOk = s.setupOk

/-! ### Ports and trace -/

/-- R55: the pins carry the logical values exclusive-or the polarities, after a successful
setup (R145) in every state within the ranges of R29. -/
def Obligations.PinsCarryThePolarity : Prop :=
  ∀ s : State, s.setupOk = true → RangesInv s → ∃ p q, segPins s = .shows p ∧ digPins s = .shows q ∧
    (∀ i, i < 7 → p.getLsbD i = (s.seg.getLsbD i ^^ s.params.segActiveLow)) ∧
    (∀ j, j < 2 → q.getLsbD j = (s.dig.bits.getLsbD j ^^ s.params.digActiveLow))

/-- 10_state.md sections 3, 4 and 7: the buzzer ports are an error until the first `TDRV` and carry
what it presented after it (log 21); no port shows anything in a state outside the ranges (log 14),
nor after a failed setup (log 7). -/
def Obligations.BuzzerPortsAreGuarded : Prop :=
  (∀ s : State, s.setupOk = true → RangesInv s → s.buzv = false →
    buzFreqPin s = .fault .buzzerUndriven ∧ buzDutyPin s = .fault .buzzerUndriven) ∧
  (∀ s : State, s.setupOk = true → RangesInv s → ∃ t, exec .tdrv s = .next t ∧
    buzFreqPin t = .shows (toneAt s.tidx) ∧ buzDutyPin t = .shows s.params.duty) ∧
  (∀ s : State, s.setupOk = true → ¬ RangesInv s → segPins s = .refused .outOfRange ∧
    digPins s = .refused .outOfRange ∧ buzFreqPin s = .refused .outOfRange ∧
    buzDutyPin s = .refused .outOfRange) ∧
  (∀ s : State, s.setupOk = false → segPins s = .refused .cfg ∧ digPins s = .refused .cfg ∧
    buzFreqPin s = .refused .cfg ∧ buzDutyPin s = .refused .cfg) ∧
  (∀ i (s t : State), RangesInv s → exec i s = .next t → i ≠ .tdrv → i ≠ .rst →
    buzFreqPin t = buzFreqPin s ∧ buzDutyPin t = buzDutyPin s)

/-- 10_state.md sections 5 and 6: an operation appends at most one event and removes none, and the
strobe `buz_set` fires exactly once per `TDRV`. -/
def Obligations.StrobeFiresOncePerTdrv : Prop :=
  ∀ i (s t : State), exec i s = .next t → i ≠ .rst →
    (∃ es, t.trace = s.trace ++ es ∧ es.length ≤ 1) ∧
    buzSetCount t = buzSetCount s + (if i = .tdrv then 1 else 0)

/-! ### Invariants -/

/-- 10_state.md section 4 (the spec's own inference there), 93_implementation_defined.md U13: the
ranges hold before and after every step, a directly asked word included; every operation keeps them;
and a state that breaks one is refused (log 14). -/
def Obligations.RangesAreKept : Prop :=
  (∀ s t : State, step s = .next t → RangesInv s ∧ RangesInv t) ∧
  (∀ i (s t : State), RangesInv s → exec i s = .next t → RangesInv t) ∧
  (∀ (s : State) i, s.setupOk = true → decodeWord s.fetched.2 = .ok i →
    mayExecute s.fetched.1 i = true → ¬ RangesInv s → step s = .refused .outOfRange)

/-- 43_counter.md section 3 (the spec's own inference there): the trace determines the counter,
after every step. -/
def Obligations.CounterMatchesItsTrace : Prop :=
  ∀ s t : State, CountInv s → step s = .next t → CountInv t

/-- 42_tone_selector.md section 3 (the spec's own inference there): every move of the block keeps
the tone index at the number of consumed signals modulo 6, and the driven frequency at the
index. -/
def Obligations.ToneFollowsTheTakenSignals : Prop :=
  ∀ s t : State, s.onlyMoves → ToneInv s → step s = .next t → t.onlyMoves ∧ ToneInv t

/-- 44_display_mux.md section 3 (the spec's own inference there): every move of the block keeps the
blanking invariant; so the segments change only while no digit is enabled. -/
def Obligations.BlankingIsKept : Prop :=
  ∀ s t : State, s.onlyMoves → BlankingInv s → step s = .next t →
    t.onlyMoves ∧ BlankingInv t ∧ (t.seg ≠ s.seg → s.dig = .blank ∧ t.dig = .blank)

/-- 43_counter.md section 3 (the spec's own inference there): the `j`-th increment is not before
tick `1000 (j - 1)`, whatever `MAXPROG` is. -/
def Obligations.IncrementsAreNeverEarly : Prop :=
  ∀ s t : State, s.onlyMoves → CounterPaceInv s → step s = .next t →
    t.onlyMoves ∧ CounterPaceInv t ∧
      (s.nextOp = some .cinc → 1000 * (incCount t - 1) ≤ s.now)

/-- 43_counter.md section 3 (the spec's own inference there): with `MAXPROG` true the `j`-th
increment is exactly at tick `1000 (j - 1)`. -/
def Obligations.IncrementsAreExactUnderMaxprog : Prop :=
  ∀ s t : State, s.onlyMoves → s.params.maxProg = true → CounterExactInv s → step s = .next t →
    t.onlyMoves ∧ t.params = s.params ∧ CounterExactInv t ∧
      (s.nextOp = some .cinc → s.now = 1000 * (incCount t - 1))

/-- 42_tone_selector.md section 3 (the spec's own inference there): with `MAXPROG` true two
consecutive drives of the buzzer are at most `T_POLL + T_TSLEEP` ticks apart. -/
def Obligations.BuzzerIsRedrivenInTime : Prop :=
  ∀ last (s t : State), s.onlyMoves → s.params.maxProg = true → RedriveInv last s →
    step s = .next t → t.onlyMoves ∧ t.params = s.params ∧
      (if s.nextOp = some .tdrv then
        s.now ≤ last + s.params.tPoll.ticks + s.params.tTSleep ∧ RedriveInv s.now t
       else RedriveInv last t)

/-- 44_display_mux.md section 3 (the spec's own inference there): the first `DBLK` of a frame starts
the frame's bounds at its tick, and with `MAXPROG` true a frame takes exactly two ticks. -/
def Obligations.FramesTakeTwoTicks : Prop :=
  (∀ s t : State, s.pcD = 0 → s.nextOp = some .dblk → step s = .next t → FrameInv s.now t) ∧
  ∀ start (s t : State), s.onlyMoves → s.params.maxProg = true → FrameInv start s →
    step s = .next t → t.onlyMoves ∧ t.params = s.params ∧
      (if s.pcD = 0 ∧ s.nextOp = some .dblk then s.now = start + 2 ∧ FrameInv s.now t
       else FrameInv start t)

/-- The invariants hold after reset. -/
def Obligations.InvariantsHoldAfterReset : Prop :=
  State.reset.onlyMoves ∧ RangesInv State.reset ∧ CountInv State.reset ∧ ToneInv State.reset ∧
  BlankingInv State.reset ∧ CounterPaceInv State.reset ∧ CounterExactInv State.reset ∧
  RedriveInv 0 State.reset
end

