-- ==== Sys2Proof/Laws/State.lean ====
section
/-! SUPPORT. What each named operation over State does to each field: one lemma per field per update,
so that no later proof unfolds a record update. -/

namespace Sys2Proof.Machine

variable (s : State)

/-! `nextT` -/

@[simp] theorem State.nextT_tidx : s.nextT.tidx = s.tidx := rfl
@[simp] theorem State.nextT_cnt : s.nextT.cnt = s.cnt := rfl
@[simp] theorem State.nextT_pend : s.nextT.pend = s.pend := rfl
@[simp] theorem State.nextT_got : s.nextT.got = s.got := rfl
@[simp] theorem State.nextT_btnq : s.nextT.btnq = s.btnq := rfl
@[simp] theorem State.nextT_val : s.nextT.val = s.val := rfl
@[simp] theorem State.nextT_dgt : s.nextT.dgt = s.dgt := rfl
@[simp] theorem State.nextT_seg : s.nextT.seg = s.seg := rfl
@[simp] theorem State.nextT_dig : s.nextT.dig = s.dig := rfl
@[simp] theorem State.nextT_buzf : s.nextT.buzf = s.buzf := rfl
@[simp] theorem State.nextT_buzd : s.nextT.buzd = s.buzd := rfl
@[simp] theorem State.nextT_buzv : s.nextT.buzv = s.buzv := rfl
@[simp] theorem State.nextT_now : s.nextT.now = s.now := rfl
@[simp] theorem State.nextT_tmrT : s.nextT.tmrT = s.tmrT := rfl
@[simp] theorem State.nextT_tmrC : s.nextT.tmrC = s.tmrC := rfl
@[simp] theorem State.nextT_tmrD : s.nextT.tmrD = s.tmrD := rfl
@[simp] theorem State.nextT_pcT : s.nextT.pcT = cycle s.pcT := rfl
@[simp] theorem State.nextT_pcC : s.nextT.pcC = s.pcC := rfl
@[simp] theorem State.nextT_pcD : s.nextT.pcD = s.pcD := rfl
@[simp] theorem State.nextT_trace : s.nextT.trace = s.trace := rfl
@[simp] theorem State.nextT_btn : s.nextT.btn = s.btn := rfl
@[simp] theorem State.nextT_params : s.nextT.params = s.params := rfl
@[simp] theorem State.nextT_setupOk : s.nextT.setupOk = s.setupOk := rfl
@[simp] theorem State.nextT_queue : s.nextT.queue = s.queue := rfl
@[simp] theorem State.nextT_choices : s.nextT.choices = s.choices := rfl
@[simp] theorem State.nextT_encResult : s.nextT.encResult = s.encResult := rfl

/-! `nextC` -/

@[simp] theorem State.nextC_tidx : s.nextC.tidx = s.tidx := rfl
@[simp] theorem State.nextC_cnt : s.nextC.cnt = s.cnt := rfl
@[simp] theorem State.nextC_pend : s.nextC.pend = s.pend := rfl
@[simp] theorem State.nextC_got : s.nextC.got = s.got := rfl
@[simp] theorem State.nextC_btnq : s.nextC.btnq = s.btnq := rfl
@[simp] theorem State.nextC_val : s.nextC.val = s.val := rfl
@[simp] theorem State.nextC_dgt : s.nextC.dgt = s.dgt := rfl
@[simp] theorem State.nextC_seg : s.nextC.seg = s.seg := rfl
@[simp] theorem State.nextC_dig : s.nextC.dig = s.dig := rfl
@[simp] theorem State.nextC_buzf : s.nextC.buzf = s.buzf := rfl
@[simp] theorem State.nextC_buzd : s.nextC.buzd = s.buzd := rfl
@[simp] theorem State.nextC_buzv : s.nextC.buzv = s.buzv := rfl
@[simp] theorem State.nextC_now : s.nextC.now = s.now := rfl
@[simp] theorem State.nextC_tmrT : s.nextC.tmrT = s.tmrT := rfl
@[simp] theorem State.nextC_tmrC : s.nextC.tmrC = s.tmrC := rfl
@[simp] theorem State.nextC_tmrD : s.nextC.tmrD = s.tmrD := rfl
@[simp] theorem State.nextC_pcT : s.nextC.pcT = s.pcT := rfl
@[simp] theorem State.nextC_pcC : s.nextC.pcC = cycle s.pcC := rfl
@[simp] theorem State.nextC_pcD : s.nextC.pcD = s.pcD := rfl
@[simp] theorem State.nextC_trace : s.nextC.trace = s.trace := rfl
@[simp] theorem State.nextC_btn : s.nextC.btn = s.btn := rfl
@[simp] theorem State.nextC_params : s.nextC.params = s.params := rfl
@[simp] theorem State.nextC_setupOk : s.nextC.setupOk = s.setupOk := rfl
@[simp] theorem State.nextC_queue : s.nextC.queue = s.queue := rfl
@[simp] theorem State.nextC_choices : s.nextC.choices = s.choices := rfl
@[simp] theorem State.nextC_encResult : s.nextC.encResult = s.encResult := rfl

/-! `nextD` -/

@[simp] theorem State.nextD_tidx : s.nextD.tidx = s.tidx := rfl
@[simp] theorem State.nextD_cnt : s.nextD.cnt = s.cnt := rfl
@[simp] theorem State.nextD_pend : s.nextD.pend = s.pend := rfl
@[simp] theorem State.nextD_got : s.nextD.got = s.got := rfl
@[simp] theorem State.nextD_btnq : s.nextD.btnq = s.btnq := rfl
@[simp] theorem State.nextD_val : s.nextD.val = s.val := rfl
@[simp] theorem State.nextD_dgt : s.nextD.dgt = s.dgt := rfl
@[simp] theorem State.nextD_seg : s.nextD.seg = s.seg := rfl
@[simp] theorem State.nextD_dig : s.nextD.dig = s.dig := rfl
@[simp] theorem State.nextD_buzf : s.nextD.buzf = s.buzf := rfl
@[simp] theorem State.nextD_buzd : s.nextD.buzd = s.buzd := rfl
@[simp] theorem State.nextD_buzv : s.nextD.buzv = s.buzv := rfl
@[simp] theorem State.nextD_now : s.nextD.now = s.now := rfl
@[simp] theorem State.nextD_tmrT : s.nextD.tmrT = s.tmrT := rfl
@[simp] theorem State.nextD_tmrC : s.nextD.tmrC = s.tmrC := rfl
@[simp] theorem State.nextD_tmrD : s.nextD.tmrD = s.tmrD := rfl
@[simp] theorem State.nextD_pcT : s.nextD.pcT = s.pcT := rfl
@[simp] theorem State.nextD_pcC : s.nextD.pcC = s.pcC := rfl
@[simp] theorem State.nextD_pcD : s.nextD.pcD = cycle s.pcD := rfl
@[simp] theorem State.nextD_trace : s.nextD.trace = s.trace := rfl
@[simp] theorem State.nextD_btn : s.nextD.btn = s.btn := rfl
@[simp] theorem State.nextD_params : s.nextD.params = s.params := rfl
@[simp] theorem State.nextD_setupOk : s.nextD.setupOk = s.setupOk := rfl
@[simp] theorem State.nextD_queue : s.nextD.queue = s.queue := rfl
@[simp] theorem State.nextD_choices : s.nextD.choices = s.choices := rfl
@[simp] theorem State.nextD_encResult : s.nextD.encResult = s.encResult := rfl

/-! `emit` -/

@[simp] theorem State.emit_tidx (e : Event) : (s.emit e).tidx = s.tidx := rfl
@[simp] theorem State.emit_cnt (e : Event) : (s.emit e).cnt = s.cnt := rfl
@[simp] theorem State.emit_pend (e : Event) : (s.emit e).pend = s.pend := rfl
@[simp] theorem State.emit_got (e : Event) : (s.emit e).got = s.got := rfl
@[simp] theorem State.emit_btnq (e : Event) : (s.emit e).btnq = s.btnq := rfl
@[simp] theorem State.emit_val (e : Event) : (s.emit e).val = s.val := rfl
@[simp] theorem State.emit_dgt (e : Event) : (s.emit e).dgt = s.dgt := rfl
@[simp] theorem State.emit_seg (e : Event) : (s.emit e).seg = s.seg := rfl
@[simp] theorem State.emit_dig (e : Event) : (s.emit e).dig = s.dig := rfl
@[simp] theorem State.emit_buzf (e : Event) : (s.emit e).buzf = s.buzf := rfl
@[simp] theorem State.emit_buzd (e : Event) : (s.emit e).buzd = s.buzd := rfl
@[simp] theorem State.emit_buzv (e : Event) : (s.emit e).buzv = s.buzv := rfl
@[simp] theorem State.emit_now (e : Event) : (s.emit e).now = s.now := rfl
@[simp] theorem State.emit_tmrT (e : Event) : (s.emit e).tmrT = s.tmrT := rfl
@[simp] theorem State.emit_tmrC (e : Event) : (s.emit e).tmrC = s.tmrC := rfl
@[simp] theorem State.emit_tmrD (e : Event) : (s.emit e).tmrD = s.tmrD := rfl
@[simp] theorem State.emit_pcT (e : Event) : (s.emit e).pcT = s.pcT := rfl
@[simp] theorem State.emit_pcC (e : Event) : (s.emit e).pcC = s.pcC := rfl
@[simp] theorem State.emit_pcD (e : Event) : (s.emit e).pcD = s.pcD := rfl
@[simp] theorem State.emit_trace (e : Event) : (s.emit e).trace = s.trace ++ [e] := rfl
@[simp] theorem State.emit_btn (e : Event) : (s.emit e).btn = s.btn := rfl
@[simp] theorem State.emit_params (e : Event) : (s.emit e).params = s.params := rfl
@[simp] theorem State.emit_setupOk (e : Event) : (s.emit e).setupOk = s.setupOk := rfl
@[simp] theorem State.emit_queue (e : Event) : (s.emit e).queue = s.queue := rfl
@[simp] theorem State.emit_choices (e : Event) : (s.emit e).choices = s.choices := rfl
@[simp] theorem State.emit_encResult (e : Event) : (s.emit e).encResult = s.encResult := rfl

/-! `signal` -/

@[simp] theorem State.signal_tidx : s.signal.tidx = s.tidx := rfl
@[simp] theorem State.signal_cnt : s.signal.cnt = s.cnt := rfl
@[simp] theorem State.signal_pend : s.signal.pend = true := rfl
@[simp] theorem State.signal_got : s.signal.got = s.got := rfl
@[simp] theorem State.signal_btnq : s.signal.btnq = s.btnq := rfl
@[simp] theorem State.signal_val : s.signal.val = s.val := rfl
@[simp] theorem State.signal_dgt : s.signal.dgt = s.dgt := rfl
@[simp] theorem State.signal_seg : s.signal.seg = s.seg := rfl
@[simp] theorem State.signal_dig : s.signal.dig = s.dig := rfl
@[simp] theorem State.signal_buzf : s.signal.buzf = s.buzf := rfl
@[simp] theorem State.signal_buzd : s.signal.buzd = s.buzd := rfl
@[simp] theorem State.signal_buzv : s.signal.buzv = s.buzv := rfl
@[simp] theorem State.signal_now : s.signal.now = s.now := rfl
@[simp] theorem State.signal_tmrT : s.signal.tmrT = s.tmrT := rfl
@[simp] theorem State.signal_tmrC : s.signal.tmrC = s.tmrC := rfl
@[simp] theorem State.signal_tmrD : s.signal.tmrD = s.tmrD := rfl
@[simp] theorem State.signal_pcT : s.signal.pcT = s.pcT := rfl
@[simp] theorem State.signal_pcC : s.signal.pcC = s.pcC := rfl
@[simp] theorem State.signal_pcD : s.signal.pcD = s.pcD := rfl
@[simp] theorem State.signal_trace : s.signal.trace = s.trace ++ [.sig] := rfl
@[simp] theorem State.signal_btn : s.signal.btn = s.btn := rfl
@[simp] theorem State.signal_params : s.signal.params = s.params := rfl
@[simp] theorem State.signal_setupOk : s.signal.setupOk = s.setupOk := rfl
@[simp] theorem State.signal_queue : s.signal.queue = s.queue := rfl
@[simp] theorem State.signal_choices : s.signal.choices = s.choices := rfl
@[simp] theorem State.signal_encResult : s.signal.encResult = s.encResult := rfl

/-! `takeInterrupt` -/

@[simp] theorem State.takeInterrupt_tidx : s.takeInterrupt.tidx = s.tidx := rfl
@[simp] theorem State.takeInterrupt_cnt : s.takeInterrupt.cnt = s.cnt := rfl
@[simp] theorem State.takeInterrupt_pend : s.takeInterrupt.pend = true := rfl
@[simp] theorem State.takeInterrupt_got : s.takeInterrupt.got = s.got := rfl
@[simp] theorem State.takeInterrupt_btnq : s.takeInterrupt.btnq = s.btnq := rfl
@[simp] theorem State.takeInterrupt_val : s.takeInterrupt.val = s.val := rfl
@[simp] theorem State.takeInterrupt_dgt : s.takeInterrupt.dgt = s.dgt := rfl
@[simp] theorem State.takeInterrupt_seg : s.takeInterrupt.seg = s.seg := rfl
@[simp] theorem State.takeInterrupt_dig : s.takeInterrupt.dig = s.dig := rfl
@[simp] theorem State.takeInterrupt_buzf : s.takeInterrupt.buzf = s.buzf := rfl
@[simp] theorem State.takeInterrupt_buzd : s.takeInterrupt.buzd = s.buzd := rfl
@[simp] theorem State.takeInterrupt_buzv : s.takeInterrupt.buzv = s.buzv := rfl
@[simp] theorem State.takeInterrupt_now : s.takeInterrupt.now = s.now := rfl
@[simp] theorem State.takeInterrupt_tmrT : s.takeInterrupt.tmrT = s.tmrT := rfl
@[simp] theorem State.takeInterrupt_tmrC : s.takeInterrupt.tmrC = s.tmrC := rfl
@[simp] theorem State.takeInterrupt_tmrD : s.takeInterrupt.tmrD = s.tmrD := rfl
@[simp] theorem State.takeInterrupt_pcT : s.takeInterrupt.pcT = s.pcT := rfl
@[simp] theorem State.takeInterrupt_pcC : s.takeInterrupt.pcC = s.pcC := rfl
@[simp] theorem State.takeInterrupt_pcD : s.takeInterrupt.pcD = s.pcD := rfl
@[simp] theorem State.takeInterrupt_trace : s.takeInterrupt.trace = s.trace ++ [.sig] := rfl
@[simp] theorem State.takeInterrupt_btn : s.takeInterrupt.btn = s.btn := rfl
@[simp] theorem State.takeInterrupt_params : s.takeInterrupt.params = s.params := rfl
@[simp] theorem State.takeInterrupt_setupOk : s.takeInterrupt.setupOk = s.setupOk := rfl
@[simp] theorem State.takeInterrupt_queue : s.takeInterrupt.queue = s.queue := rfl
@[simp] theorem State.takeInterrupt_choices : s.takeInterrupt.choices = s.choices := rfl
@[simp] theorem State.takeInterrupt_encResult : s.takeInterrupt.encResult = s.encResult := rfl

/-! `takeSignal` -/

@[simp] theorem State.takeSignal_tidx : s.takeSignal.tidx = s.tidx := rfl
@[simp] theorem State.takeSignal_cnt : s.takeSignal.cnt = s.cnt := rfl
@[simp] theorem State.takeSignal_pend : s.takeSignal.pend = false := rfl
@[simp] theorem State.takeSignal_got : s.takeSignal.got = true := rfl
@[simp] theorem State.takeSignal_btnq : s.takeSignal.btnq = s.btnq := rfl
@[simp] theorem State.takeSignal_val : s.takeSignal.val = s.val := rfl
@[simp] theorem State.takeSignal_dgt : s.takeSignal.dgt = s.dgt := rfl
@[simp] theorem State.takeSignal_seg : s.takeSignal.seg = s.seg := rfl
@[simp] theorem State.takeSignal_dig : s.takeSignal.dig = s.dig := rfl
@[simp] theorem State.takeSignal_buzf : s.takeSignal.buzf = s.buzf := rfl
@[simp] theorem State.takeSignal_buzd : s.takeSignal.buzd = s.buzd := rfl
@[simp] theorem State.takeSignal_buzv : s.takeSignal.buzv = s.buzv := rfl
@[simp] theorem State.takeSignal_now : s.takeSignal.now = s.now := rfl
@[simp] theorem State.takeSignal_tmrT : s.takeSignal.tmrT = s.tmrT := rfl
@[simp] theorem State.takeSignal_tmrC : s.takeSignal.tmrC = s.tmrC := rfl
@[simp] theorem State.takeSignal_tmrD : s.takeSignal.tmrD = s.tmrD := rfl
@[simp] theorem State.takeSignal_pcT : s.takeSignal.pcT = s.pcT := rfl
@[simp] theorem State.takeSignal_pcC : s.takeSignal.pcC = s.pcC := rfl
@[simp] theorem State.takeSignal_pcD : s.takeSignal.pcD = s.pcD := rfl
@[simp] theorem State.takeSignal_trace : s.takeSignal.trace = s.trace ++ [.take] := rfl
@[simp] theorem State.takeSignal_btn : s.takeSignal.btn = s.btn := rfl
@[simp] theorem State.takeSignal_params : s.takeSignal.params = s.params := rfl
@[simp] theorem State.takeSignal_setupOk : s.takeSignal.setupOk = s.setupOk := rfl
@[simp] theorem State.takeSignal_queue : s.takeSignal.queue = s.queue := rfl
@[simp] theorem State.takeSignal_choices : s.takeSignal.choices = s.choices := rfl
@[simp] theorem State.takeSignal_encResult : s.takeSignal.encResult = s.encResult := rfl

/-! `timeOut` -/

@[simp] theorem State.timeOut_tidx : s.timeOut.tidx = s.tidx := rfl
@[simp] theorem State.timeOut_cnt : s.timeOut.cnt = s.cnt := rfl
@[simp] theorem State.timeOut_pend : s.timeOut.pend = s.pend := rfl
@[simp] theorem State.timeOut_got : s.timeOut.got = false := rfl
@[simp] theorem State.timeOut_btnq : s.timeOut.btnq = s.btnq := rfl
@[simp] theorem State.timeOut_val : s.timeOut.val = s.val := rfl
@[simp] theorem State.timeOut_dgt : s.timeOut.dgt = s.dgt := rfl
@[simp] theorem State.timeOut_seg : s.timeOut.seg = s.seg := rfl
@[simp] theorem State.timeOut_dig : s.timeOut.dig = s.dig := rfl
@[simp] theorem State.timeOut_buzf : s.timeOut.buzf = s.buzf := rfl
@[simp] theorem State.timeOut_buzd : s.timeOut.buzd = s.buzd := rfl
@[simp] theorem State.timeOut_buzv : s.timeOut.buzv = s.buzv := rfl
@[simp] theorem State.timeOut_now : s.timeOut.now = s.now := rfl
@[simp] theorem State.timeOut_tmrT : s.timeOut.tmrT = s.tmrT := rfl
@[simp] theorem State.timeOut_tmrC : s.timeOut.tmrC = s.tmrC := rfl
@[simp] theorem State.timeOut_tmrD : s.timeOut.tmrD = s.tmrD := rfl
@[simp] theorem State.timeOut_pcT : s.timeOut.pcT = s.pcT := rfl
@[simp] theorem State.timeOut_pcC : s.timeOut.pcC = s.pcC := rfl
@[simp] theorem State.timeOut_pcD : s.timeOut.pcD = s.pcD := rfl
@[simp] theorem State.timeOut_trace : s.timeOut.trace = s.trace ++ [.timeout] := rfl
@[simp] theorem State.timeOut_btn : s.timeOut.btn = s.btn := rfl
@[simp] theorem State.timeOut_params : s.timeOut.params = s.params := rfl
@[simp] theorem State.timeOut_setupOk : s.timeOut.setupOk = s.setupOk := rfl
@[simp] theorem State.timeOut_queue : s.timeOut.queue = s.queue := rfl
@[simp] theorem State.timeOut_choices : s.timeOut.choices = s.choices := rfl
@[simp] theorem State.timeOut_encResult : s.timeOut.encResult = s.encResult := rfl

/-! `armT` -/

@[simp] theorem State.armT_tidx (n : Nat) : (s.armT n).tidx = s.tidx := rfl
@[simp] theorem State.armT_cnt (n : Nat) : (s.armT n).cnt = s.cnt := rfl
@[simp] theorem State.armT_pend (n : Nat) : (s.armT n).pend = s.pend := rfl
@[simp] theorem State.armT_got (n : Nat) : (s.armT n).got = s.got := rfl
@[simp] theorem State.armT_btnq (n : Nat) : (s.armT n).btnq = s.btnq := rfl
@[simp] theorem State.armT_val (n : Nat) : (s.armT n).val = s.val := rfl
@[simp] theorem State.armT_dgt (n : Nat) : (s.armT n).dgt = s.dgt := rfl
@[simp] theorem State.armT_seg (n : Nat) : (s.armT n).seg = s.seg := rfl
@[simp] theorem State.armT_dig (n : Nat) : (s.armT n).dig = s.dig := rfl
@[simp] theorem State.armT_buzf (n : Nat) : (s.armT n).buzf = s.buzf := rfl
@[simp] theorem State.armT_buzd (n : Nat) : (s.armT n).buzd = s.buzd := rfl
@[simp] theorem State.armT_buzv (n : Nat) : (s.armT n).buzv = s.buzv := rfl
@[simp] theorem State.armT_now (n : Nat) : (s.armT n).now = s.now := rfl
@[simp] theorem State.armT_tmrT (n : Nat) : (s.armT n).tmrT = s.now + n := rfl
@[simp] theorem State.armT_tmrC (n : Nat) : (s.armT n).tmrC = s.tmrC := rfl
@[simp] theorem State.armT_tmrD (n : Nat) : (s.armT n).tmrD = s.tmrD := rfl
@[simp] theorem State.armT_pcT (n : Nat) : (s.armT n).pcT = s.pcT := rfl
@[simp] theorem State.armT_pcC (n : Nat) : (s.armT n).pcC = s.pcC := rfl
@[simp] theorem State.armT_pcD (n : Nat) : (s.armT n).pcD = s.pcD := rfl
@[simp] theorem State.armT_trace (n : Nat) : (s.armT n).trace = s.trace := rfl
@[simp] theorem State.armT_btn (n : Nat) : (s.armT n).btn = s.btn := rfl
@[simp] theorem State.armT_params (n : Nat) : (s.armT n).params = s.params := rfl
@[simp] theorem State.armT_setupOk (n : Nat) : (s.armT n).setupOk = s.setupOk := rfl
@[simp] theorem State.armT_queue (n : Nat) : (s.armT n).queue = s.queue := rfl
@[simp] theorem State.armT_choices (n : Nat) : (s.armT n).choices = s.choices := rfl
@[simp] theorem State.armT_encResult (n : Nat) : (s.armT n).encResult = s.encResult := rfl

/-! `armC` -/

@[simp] theorem State.armC_tidx (n : Nat) : (s.armC n).tidx = s.tidx := rfl
@[simp] theorem State.armC_cnt (n : Nat) : (s.armC n).cnt = s.cnt := rfl
@[simp] theorem State.armC_pend (n : Nat) : (s.armC n).pend = s.pend := rfl
@[simp] theorem State.armC_got (n : Nat) : (s.armC n).got = s.got := rfl
@[simp] theorem State.armC_btnq (n : Nat) : (s.armC n).btnq = s.btnq := rfl
@[simp] theorem State.armC_val (n : Nat) : (s.armC n).val = s.val := rfl
@[simp] theorem State.armC_dgt (n : Nat) : (s.armC n).dgt = s.dgt := rfl
@[simp] theorem State.armC_seg (n : Nat) : (s.armC n).seg = s.seg := rfl
@[simp] theorem State.armC_dig (n : Nat) : (s.armC n).dig = s.dig := rfl
@[simp] theorem State.armC_buzf (n : Nat) : (s.armC n).buzf = s.buzf := rfl
@[simp] theorem State.armC_buzd (n : Nat) : (s.armC n).buzd = s.buzd := rfl
@[simp] theorem State.armC_buzv (n : Nat) : (s.armC n).buzv = s.buzv := rfl
@[simp] theorem State.armC_now (n : Nat) : (s.armC n).now = s.now := rfl
@[simp] theorem State.armC_tmrT (n : Nat) : (s.armC n).tmrT = s.tmrT := rfl
@[simp] theorem State.armC_tmrC (n : Nat) : (s.armC n).tmrC = s.now + n := rfl
@[simp] theorem State.armC_tmrD (n : Nat) : (s.armC n).tmrD = s.tmrD := rfl
@[simp] theorem State.armC_pcT (n : Nat) : (s.armC n).pcT = s.pcT := rfl
@[simp] theorem State.armC_pcC (n : Nat) : (s.armC n).pcC = s.pcC := rfl
@[simp] theorem State.armC_pcD (n : Nat) : (s.armC n).pcD = s.pcD := rfl
@[simp] theorem State.armC_trace (n : Nat) : (s.armC n).trace = s.trace := rfl
@[simp] theorem State.armC_btn (n : Nat) : (s.armC n).btn = s.btn := rfl
@[simp] theorem State.armC_params (n : Nat) : (s.armC n).params = s.params := rfl
@[simp] theorem State.armC_setupOk (n : Nat) : (s.armC n).setupOk = s.setupOk := rfl
@[simp] theorem State.armC_queue (n : Nat) : (s.armC n).queue = s.queue := rfl
@[simp] theorem State.armC_choices (n : Nat) : (s.armC n).choices = s.choices := rfl
@[simp] theorem State.armC_encResult (n : Nat) : (s.armC n).encResult = s.encResult := rfl

/-! `armD` -/

@[simp] theorem State.armD_tidx (n : Nat) : (s.armD n).tidx = s.tidx := rfl
@[simp] theorem State.armD_cnt (n : Nat) : (s.armD n).cnt = s.cnt := rfl
@[simp] theorem State.armD_pend (n : Nat) : (s.armD n).pend = s.pend := rfl
@[simp] theorem State.armD_got (n : Nat) : (s.armD n).got = s.got := rfl
@[simp] theorem State.armD_btnq (n : Nat) : (s.armD n).btnq = s.btnq := rfl
@[simp] theorem State.armD_val (n : Nat) : (s.armD n).val = s.val := rfl
@[simp] theorem State.armD_dgt (n : Nat) : (s.armD n).dgt = s.dgt := rfl
@[simp] theorem State.armD_seg (n : Nat) : (s.armD n).seg = s.seg := rfl
@[simp] theorem State.armD_dig (n : Nat) : (s.armD n).dig = s.dig := rfl
@[simp] theorem State.armD_buzf (n : Nat) : (s.armD n).buzf = s.buzf := rfl
@[simp] theorem State.armD_buzd (n : Nat) : (s.armD n).buzd = s.buzd := rfl
@[simp] theorem State.armD_buzv (n : Nat) : (s.armD n).buzv = s.buzv := rfl
@[simp] theorem State.armD_now (n : Nat) : (s.armD n).now = s.now := rfl
@[simp] theorem State.armD_tmrT (n : Nat) : (s.armD n).tmrT = s.tmrT := rfl
@[simp] theorem State.armD_tmrC (n : Nat) : (s.armD n).tmrC = s.tmrC := rfl
@[simp] theorem State.armD_tmrD (n : Nat) : (s.armD n).tmrD = s.now + n := rfl
@[simp] theorem State.armD_pcT (n : Nat) : (s.armD n).pcT = s.pcT := rfl
@[simp] theorem State.armD_pcC (n : Nat) : (s.armD n).pcC = s.pcC := rfl
@[simp] theorem State.armD_pcD (n : Nat) : (s.armD n).pcD = s.pcD := rfl
@[simp] theorem State.armD_trace (n : Nat) : (s.armD n).trace = s.trace := rfl
@[simp] theorem State.armD_btn (n : Nat) : (s.armD n).btn = s.btn := rfl
@[simp] theorem State.armD_params (n : Nat) : (s.armD n).params = s.params := rfl
@[simp] theorem State.armD_setupOk (n : Nat) : (s.armD n).setupOk = s.setupOk := rfl
@[simp] theorem State.armD_queue (n : Nat) : (s.armD n).queue = s.queue := rfl
@[simp] theorem State.armD_choices (n : Nat) : (s.armD n).choices = s.choices := rfl
@[simp] theorem State.armD_encResult (n : Nat) : (s.armD n).encResult = s.encResult := rfl

/-! `presentTone` -/

@[simp] theorem State.presentTone_tidx (f : Hertz) (d : Nat) : (s.presentTone f d).tidx = s.tidx := rfl
@[simp] theorem State.presentTone_cnt (f : Hertz) (d : Nat) : (s.presentTone f d).cnt = s.cnt := rfl
@[simp] theorem State.presentTone_pend (f : Hertz) (d : Nat) : (s.presentTone f d).pend = s.pend := rfl
@[simp] theorem State.presentTone_got (f : Hertz) (d : Nat) : (s.presentTone f d).got = s.got := rfl
@[simp] theorem State.presentTone_btnq (f : Hertz) (d : Nat) : (s.presentTone f d).btnq = s.btnq := rfl
@[simp] theorem State.presentTone_val (f : Hertz) (d : Nat) : (s.presentTone f d).val = s.val := rfl
@[simp] theorem State.presentTone_dgt (f : Hertz) (d : Nat) : (s.presentTone f d).dgt = s.dgt := rfl
@[simp] theorem State.presentTone_seg (f : Hertz) (d : Nat) : (s.presentTone f d).seg = s.seg := rfl
@[simp] theorem State.presentTone_dig (f : Hertz) (d : Nat) : (s.presentTone f d).dig = s.dig := rfl
@[simp] theorem State.presentTone_buzf (f : Hertz) (d : Nat) : (s.presentTone f d).buzf = f := rfl
@[simp] theorem State.presentTone_buzd (f : Hertz) (d : Nat) : (s.presentTone f d).buzd = d := rfl
@[simp] theorem State.presentTone_buzv (f : Hertz) (d : Nat) : (s.presentTone f d).buzv = true := rfl
@[simp] theorem State.presentTone_now (f : Hertz) (d : Nat) : (s.presentTone f d).now = s.now := rfl
@[simp] theorem State.presentTone_tmrT (f : Hertz) (d : Nat) : (s.presentTone f d).tmrT = s.tmrT := rfl
@[simp] theorem State.presentTone_tmrC (f : Hertz) (d : Nat) : (s.presentTone f d).tmrC = s.tmrC := rfl
@[simp] theorem State.presentTone_tmrD (f : Hertz) (d : Nat) : (s.presentTone f d).tmrD = s.tmrD := rfl
@[simp] theorem State.presentTone_pcT (f : Hertz) (d : Nat) : (s.presentTone f d).pcT = s.pcT := rfl
@[simp] theorem State.presentTone_pcC (f : Hertz) (d : Nat) : (s.presentTone f d).pcC = s.pcC := rfl
@[simp] theorem State.presentTone_pcD (f : Hertz) (d : Nat) : (s.presentTone f d).pcD = s.pcD := rfl
@[simp] theorem State.presentTone_trace (f : Hertz) (d : Nat) : (s.presentTone f d).trace = s.trace ++ [.buzzSet f d] := rfl
@[simp] theorem State.presentTone_btn (f : Hertz) (d : Nat) : (s.presentTone f d).btn = s.btn := rfl
@[simp] theorem State.presentTone_params (f : Hertz) (d : Nat) : (s.presentTone f d).params = s.params := rfl
@[simp] theorem State.presentTone_setupOk (f : Hertz) (d : Nat) : (s.presentTone f d).setupOk = s.setupOk := rfl
@[simp] theorem State.presentTone_queue (f : Hertz) (d : Nat) : (s.presentTone f d).queue = s.queue := rfl
@[simp] theorem State.presentTone_choices (f : Hertz) (d : Nat) : (s.presentTone f d).choices = s.choices := rfl
@[simp] theorem State.presentTone_encResult (f : Hertz) (d : Nat) : (s.presentTone f d).encResult = s.encResult := rfl

/-! `setCount` -/

@[simp] theorem State.setCount_tidx (v : Fin 100) : (s.setCount v).tidx = s.tidx := rfl
@[simp] theorem State.setCount_cnt (v : Fin 100) : (s.setCount v).cnt = v := rfl
@[simp] theorem State.setCount_pend (v : Fin 100) : (s.setCount v).pend = s.pend := rfl
@[simp] theorem State.setCount_got (v : Fin 100) : (s.setCount v).got = s.got := rfl
@[simp] theorem State.setCount_btnq (v : Fin 100) : (s.setCount v).btnq = s.btnq := rfl
@[simp] theorem State.setCount_val (v : Fin 100) : (s.setCount v).val = s.val := rfl
@[simp] theorem State.setCount_dgt (v : Fin 100) : (s.setCount v).dgt = s.dgt := rfl
@[simp] theorem State.setCount_seg (v : Fin 100) : (s.setCount v).seg = s.seg := rfl
@[simp] theorem State.setCount_dig (v : Fin 100) : (s.setCount v).dig = s.dig := rfl
@[simp] theorem State.setCount_buzf (v : Fin 100) : (s.setCount v).buzf = s.buzf := rfl
@[simp] theorem State.setCount_buzd (v : Fin 100) : (s.setCount v).buzd = s.buzd := rfl
@[simp] theorem State.setCount_buzv (v : Fin 100) : (s.setCount v).buzv = s.buzv := rfl
@[simp] theorem State.setCount_now (v : Fin 100) : (s.setCount v).now = s.now := rfl
@[simp] theorem State.setCount_tmrT (v : Fin 100) : (s.setCount v).tmrT = s.tmrT := rfl
@[simp] theorem State.setCount_tmrC (v : Fin 100) : (s.setCount v).tmrC = s.tmrC := rfl
@[simp] theorem State.setCount_tmrD (v : Fin 100) : (s.setCount v).tmrD = s.tmrD := rfl
@[simp] theorem State.setCount_pcT (v : Fin 100) : (s.setCount v).pcT = s.pcT := rfl
@[simp] theorem State.setCount_pcC (v : Fin 100) : (s.setCount v).pcC = s.pcC := rfl
@[simp] theorem State.setCount_pcD (v : Fin 100) : (s.setCount v).pcD = s.pcD := rfl
@[simp] theorem State.setCount_trace (v : Fin 100) : (s.setCount v).trace = s.trace ++ [.inc v] := rfl
@[simp] theorem State.setCount_btn (v : Fin 100) : (s.setCount v).btn = s.btn := rfl
@[simp] theorem State.setCount_params (v : Fin 100) : (s.setCount v).params = s.params := rfl
@[simp] theorem State.setCount_setupOk (v : Fin 100) : (s.setCount v).setupOk = s.setupOk := rfl
@[simp] theorem State.setCount_queue (v : Fin 100) : (s.setCount v).queue = s.queue := rfl
@[simp] theorem State.setCount_choices (v : Fin 100) : (s.setCount v).choices = s.choices := rfl
@[simp] theorem State.setCount_encResult (v : Fin 100) : (s.setCount v).encResult = s.encResult := rfl

/-! `setSelect` -/

@[simp] theorem State.setSelect_tidx (d : DigSel) : (s.setSelect d).tidx = s.tidx := rfl
@[simp] theorem State.setSelect_cnt (d : DigSel) : (s.setSelect d).cnt = s.cnt := rfl
@[simp] theorem State.setSelect_pend (d : DigSel) : (s.setSelect d).pend = s.pend := rfl
@[simp] theorem State.setSelect_got (d : DigSel) : (s.setSelect d).got = s.got := rfl
@[simp] theorem State.setSelect_btnq (d : DigSel) : (s.setSelect d).btnq = s.btnq := rfl
@[simp] theorem State.setSelect_val (d : DigSel) : (s.setSelect d).val = s.val := rfl
@[simp] theorem State.setSelect_dgt (d : DigSel) : (s.setSelect d).dgt = s.dgt := rfl
@[simp] theorem State.setSelect_seg (d : DigSel) : (s.setSelect d).seg = s.seg := rfl
@[simp] theorem State.setSelect_dig (d : DigSel) : (s.setSelect d).dig = d := rfl
@[simp] theorem State.setSelect_buzf (d : DigSel) : (s.setSelect d).buzf = s.buzf := rfl
@[simp] theorem State.setSelect_buzd (d : DigSel) : (s.setSelect d).buzd = s.buzd := rfl
@[simp] theorem State.setSelect_buzv (d : DigSel) : (s.setSelect d).buzv = s.buzv := rfl
@[simp] theorem State.setSelect_now (d : DigSel) : (s.setSelect d).now = s.now := rfl
@[simp] theorem State.setSelect_tmrT (d : DigSel) : (s.setSelect d).tmrT = s.tmrT := rfl
@[simp] theorem State.setSelect_tmrC (d : DigSel) : (s.setSelect d).tmrC = s.tmrC := rfl
@[simp] theorem State.setSelect_tmrD (d : DigSel) : (s.setSelect d).tmrD = s.tmrD := rfl
@[simp] theorem State.setSelect_pcT (d : DigSel) : (s.setSelect d).pcT = s.pcT := rfl
@[simp] theorem State.setSelect_pcC (d : DigSel) : (s.setSelect d).pcC = s.pcC := rfl
@[simp] theorem State.setSelect_pcD (d : DigSel) : (s.setSelect d).pcD = s.pcD := rfl
@[simp] theorem State.setSelect_trace (d : DigSel) : (s.setSelect d).trace = s.trace ++ [.digSet d] := rfl
@[simp] theorem State.setSelect_btn (d : DigSel) : (s.setSelect d).btn = s.btn := rfl
@[simp] theorem State.setSelect_params (d : DigSel) : (s.setSelect d).params = s.params := rfl
@[simp] theorem State.setSelect_setupOk (d : DigSel) : (s.setSelect d).setupOk = s.setupOk := rfl
@[simp] theorem State.setSelect_queue (d : DigSel) : (s.setSelect d).queue = s.queue := rfl
@[simp] theorem State.setSelect_choices (d : DigSel) : (s.setSelect d).choices = s.choices := rfl
@[simp] theorem State.setSelect_encResult (d : DigSel) : (s.setSelect d).encResult = s.encResult := rfl

/-! `readCounter` -/

@[simp] theorem State.readCounter_tidx (p : Position) : (s.readCounter p).tidx = s.tidx := rfl
@[simp] theorem State.readCounter_cnt (p : Position) : (s.readCounter p).cnt = s.cnt := rfl
@[simp] theorem State.readCounter_pend (p : Position) : (s.readCounter p).pend = s.pend := rfl
@[simp] theorem State.readCounter_got (p : Position) : (s.readCounter p).got = s.got := rfl
@[simp] theorem State.readCounter_btnq (p : Position) : (s.readCounter p).btnq = s.btnq := rfl
@[simp] theorem State.readCounter_val (p : Position) : (s.readCounter p).val = if readsCounter s p then s.cnt else s.val := rfl
@[simp] theorem State.readCounter_dgt (p : Position) : (s.readCounter p).dgt = s.dgt := rfl
@[simp] theorem State.readCounter_seg (p : Position) : (s.readCounter p).seg = s.seg := rfl
@[simp] theorem State.readCounter_dig (p : Position) : (s.readCounter p).dig = s.dig := rfl
@[simp] theorem State.readCounter_buzf (p : Position) : (s.readCounter p).buzf = s.buzf := rfl
@[simp] theorem State.readCounter_buzd (p : Position) : (s.readCounter p).buzd = s.buzd := rfl
@[simp] theorem State.readCounter_buzv (p : Position) : (s.readCounter p).buzv = s.buzv := rfl
@[simp] theorem State.readCounter_now (p : Position) : (s.readCounter p).now = s.now := rfl
@[simp] theorem State.readCounter_tmrT (p : Position) : (s.readCounter p).tmrT = s.tmrT := rfl
@[simp] theorem State.readCounter_tmrC (p : Position) : (s.readCounter p).tmrC = s.tmrC := rfl
@[simp] theorem State.readCounter_tmrD (p : Position) : (s.readCounter p).tmrD = s.tmrD := rfl
@[simp] theorem State.readCounter_pcT (p : Position) : (s.readCounter p).pcT = s.pcT := rfl
@[simp] theorem State.readCounter_pcC (p : Position) : (s.readCounter p).pcC = s.pcC := rfl
@[simp] theorem State.readCounter_pcD (p : Position) : (s.readCounter p).pcD = s.pcD := rfl
@[simp] theorem State.readCounter_trace (p : Position) : (s.readCounter p).trace = s.trace := rfl
@[simp] theorem State.readCounter_btn (p : Position) : (s.readCounter p).btn = s.btn := rfl
@[simp] theorem State.readCounter_params (p : Position) : (s.readCounter p).params = s.params := rfl
@[simp] theorem State.readCounter_setupOk (p : Position) : (s.readCounter p).setupOk = s.setupOk := rfl
@[simp] theorem State.readCounter_queue (p : Position) : (s.readCounter p).queue = s.queue := rfl
@[simp] theorem State.readCounter_choices (p : Position) : (s.readCounter p).choices = s.choices := rfl
@[simp] theorem State.readCounter_encResult (p : Position) : (s.readCounter p).encResult = s.encResult := rfl

/-! `showDigit` -/

@[simp] theorem State.showDigit_tidx (d : DigitCode) : (s.showDigit d).tidx = s.tidx := rfl
@[simp] theorem State.showDigit_cnt (d : DigitCode) : (s.showDigit d).cnt = s.cnt := rfl
@[simp] theorem State.showDigit_pend (d : DigitCode) : (s.showDigit d).pend = s.pend := rfl
@[simp] theorem State.showDigit_got (d : DigitCode) : (s.showDigit d).got = s.got := rfl
@[simp] theorem State.showDigit_btnq (d : DigitCode) : (s.showDigit d).btnq = s.btnq := rfl
@[simp] theorem State.showDigit_val (d : DigitCode) : (s.showDigit d).val = s.val := rfl
@[simp] theorem State.showDigit_dgt (d : DigitCode) : (s.showDigit d).dgt = d := rfl
@[simp] theorem State.showDigit_seg (d : DigitCode) : (s.showDigit d).seg = encode7 s.params d := rfl
@[simp] theorem State.showDigit_dig (d : DigitCode) : (s.showDigit d).dig = s.dig := rfl
@[simp] theorem State.showDigit_buzf (d : DigitCode) : (s.showDigit d).buzf = s.buzf := rfl
@[simp] theorem State.showDigit_buzd (d : DigitCode) : (s.showDigit d).buzd = s.buzd := rfl
@[simp] theorem State.showDigit_buzv (d : DigitCode) : (s.showDigit d).buzv = s.buzv := rfl
@[simp] theorem State.showDigit_now (d : DigitCode) : (s.showDigit d).now = s.now := rfl
@[simp] theorem State.showDigit_tmrT (d : DigitCode) : (s.showDigit d).tmrT = s.tmrT := rfl
@[simp] theorem State.showDigit_tmrC (d : DigitCode) : (s.showDigit d).tmrC = s.tmrC := rfl
@[simp] theorem State.showDigit_tmrD (d : DigitCode) : (s.showDigit d).tmrD = s.tmrD := rfl
@[simp] theorem State.showDigit_pcT (d : DigitCode) : (s.showDigit d).pcT = s.pcT := rfl
@[simp] theorem State.showDigit_pcC (d : DigitCode) : (s.showDigit d).pcC = s.pcC := rfl
@[simp] theorem State.showDigit_pcD (d : DigitCode) : (s.showDigit d).pcD = s.pcD := rfl
@[simp] theorem State.showDigit_trace (d : DigitCode) : (s.showDigit d).trace = s.trace ++ [.segSet (encode7 s.params d)] := rfl
@[simp] theorem State.showDigit_btn (d : DigitCode) : (s.showDigit d).btn = s.btn := rfl
@[simp] theorem State.showDigit_params (d : DigitCode) : (s.showDigit d).params = s.params := rfl
@[simp] theorem State.showDigit_setupOk (d : DigitCode) : (s.showDigit d).setupOk = s.setupOk := rfl
@[simp] theorem State.showDigit_queue (d : DigitCode) : (s.showDigit d).queue = s.queue := rfl
@[simp] theorem State.showDigit_choices (d : DigitCode) : (s.showDigit d).choices = s.choices := rfl
@[simp] theorem State.showDigit_encResult (d : DigitCode) : (s.showDigit d).encResult = s.encResult := rfl

/-! `consume` takes one request off and changes no register. -/

@[simp] theorem State.consume_tidx : s.consume.tidx = s.tidx := by
  unfold State.consume; split <;> rfl
@[simp] theorem State.consume_cnt : s.consume.cnt = s.cnt := by
  unfold State.consume; split <;> rfl
@[simp] theorem State.consume_pend : s.consume.pend = s.pend := by
  unfold State.consume; split <;> rfl
@[simp] theorem State.consume_got : s.consume.got = s.got := by
  unfold State.consume; split <;> rfl
@[simp] theorem State.consume_btnq : s.consume.btnq = s.btnq := by
  unfold State.consume; split <;> rfl
@[simp] theorem State.consume_val : s.consume.val = s.val := by
  unfold State.consume; split <;> rfl
@[simp] theorem State.consume_dgt : s.consume.dgt = s.dgt := by
  unfold State.consume; split <;> rfl
@[simp] theorem State.consume_seg : s.consume.seg = s.seg := by
  unfold State.consume; split <;> rfl
@[simp] theorem State.consume_dig : s.consume.dig = s.dig := by
  unfold State.consume; split <;> rfl
@[simp] theorem State.consume_buzf : s.consume.buzf = s.buzf := by
  unfold State.consume; split <;> rfl
@[simp] theorem State.consume_buzd : s.consume.buzd = s.buzd := by
  unfold State.consume; split <;> rfl
@[simp] theorem State.consume_buzv : s.consume.buzv = s.buzv := by
  unfold State.consume; split <;> rfl
@[simp] theorem State.consume_now : s.consume.now = s.now := by
  unfold State.consume; split <;> rfl
@[simp] theorem State.consume_tmrT : s.consume.tmrT = s.tmrT := by
  unfold State.consume; split <;> rfl
@[simp] theorem State.consume_tmrC : s.consume.tmrC = s.tmrC := by
  unfold State.consume; split <;> rfl
@[simp] theorem State.consume_tmrD : s.consume.tmrD = s.tmrD := by
  unfold State.consume; split <;> rfl
@[simp] theorem State.consume_pcT : s.consume.pcT = s.pcT := by
  unfold State.consume; split <;> rfl
@[simp] theorem State.consume_pcC : s.consume.pcC = s.pcC := by
  unfold State.consume; split <;> rfl
@[simp] theorem State.consume_pcD : s.consume.pcD = s.pcD := by
  unfold State.consume; split <;> rfl
@[simp] theorem State.consume_trace : s.consume.trace = s.trace := by
  unfold State.consume; split <;> rfl
@[simp] theorem State.consume_btn : s.consume.btn = s.btn := by
  unfold State.consume; split <;> rfl
@[simp] theorem State.consume_params : s.consume.params = s.params := by
  unfold State.consume; split <;> rfl
@[simp] theorem State.consume_setupOk : s.consume.setupOk = s.setupOk := by
  unfold State.consume; split <;> rfl
@[simp] theorem State.consume_encResult : s.consume.encResult = s.encResult := by
  unfold State.consume; split <;> rfl

theorem State.consume_cons {r : Request} {rest : List Request} (h : s.queue = r :: rest) :
    s.consume = { s with queue := rest } := by
  unfold State.consume; rw [h]

theorem State.consume_nil (h : s.queue = []) :
    s.consume = { s with choices := s.choices + 1 } := by
  unfold State.consume; rw [h]

/-! Asking for a word changes the queue alone. -/

@[simp] theorem State.ask_tidx (w : Word) : (s.ask w).tidx = s.tidx := rfl
@[simp] theorem State.ask_cnt (w : Word) : (s.ask w).cnt = s.cnt := rfl
@[simp] theorem State.ask_pend (w : Word) : (s.ask w).pend = s.pend := rfl
@[simp] theorem State.ask_got (w : Word) : (s.ask w).got = s.got := rfl
@[simp] theorem State.ask_btnq (w : Word) : (s.ask w).btnq = s.btnq := rfl
@[simp] theorem State.ask_val (w : Word) : (s.ask w).val = s.val := rfl
@[simp] theorem State.ask_dgt (w : Word) : (s.ask w).dgt = s.dgt := rfl
@[simp] theorem State.ask_seg (w : Word) : (s.ask w).seg = s.seg := rfl
@[simp] theorem State.ask_dig (w : Word) : (s.ask w).dig = s.dig := rfl
@[simp] theorem State.ask_buzf (w : Word) : (s.ask w).buzf = s.buzf := rfl
@[simp] theorem State.ask_buzd (w : Word) : (s.ask w).buzd = s.buzd := rfl
@[simp] theorem State.ask_buzv (w : Word) : (s.ask w).buzv = s.buzv := rfl
@[simp] theorem State.ask_now (w : Word) : (s.ask w).now = s.now := rfl
@[simp] theorem State.ask_tmrT (w : Word) : (s.ask w).tmrT = s.tmrT := rfl
@[simp] theorem State.ask_tmrC (w : Word) : (s.ask w).tmrC = s.tmrC := rfl
@[simp] theorem State.ask_tmrD (w : Word) : (s.ask w).tmrD = s.tmrD := rfl
@[simp] theorem State.ask_pcT (w : Word) : (s.ask w).pcT = s.pcT := rfl
@[simp] theorem State.ask_pcC (w : Word) : (s.ask w).pcC = s.pcC := rfl
@[simp] theorem State.ask_pcD (w : Word) : (s.ask w).pcD = s.pcD := rfl
@[simp] theorem State.ask_trace (w : Word) : (s.ask w).trace = s.trace := rfl
@[simp] theorem State.ask_btn (w : Word) : (s.ask w).btn = s.btn := rfl
@[simp] theorem State.ask_params (w : Word) : (s.ask w).params = s.params := rfl
@[simp] theorem State.ask_setupOk (w : Word) : (s.ask w).setupOk = s.setupOk := rfl
@[simp] theorem State.ask_choices (w : Word) : (s.ask w).choices = s.choices := rfl
@[simp] theorem State.ask_encResult (w : Word) : (s.ask w).encResult = s.encResult := rfl

@[simp] theorem State.ask_queue (w : Word) :
    (s.ask w).queue = .asked (contextForWord w) w :: s.queue := rfl

/-! `resetWith` -/

variable (p : Params) (level : Bool)

@[simp] theorem State.resetWith_tidx : (State.resetWith p level).tidx = 0 := rfl

@[simp] theorem State.resetWith_cnt : (State.resetWith p level).cnt = 0 := rfl

@[simp] theorem State.resetWith_pend : (State.resetWith p level).pend = false := rfl

@[simp] theorem State.resetWith_got : (State.resetWith p level).got = false := rfl

@[simp] theorem State.resetWith_btnq : (State.resetWith p level).btnq = level := rfl

@[simp] theorem State.resetWith_val : (State.resetWith p level).val = 0 := rfl

@[simp] theorem State.resetWith_dgt : (State.resetWith p level).dgt = 0 := rfl

@[simp] theorem State.resetWith_seg : (State.resetWith p level).seg = 0 := rfl

@[simp] theorem State.resetWith_dig : (State.resetWith p level).dig = .blank := rfl

@[simp] theorem State.resetWith_buzf : (State.resetWith p level).buzf = Config.buzfAtReset := rfl

@[simp] theorem State.resetWith_buzd : (State.resetWith p level).buzd = Config.buzdAtReset := rfl

@[simp] theorem State.resetWith_buzv : (State.resetWith p level).buzv = false := rfl

@[simp] theorem State.resetWith_now : (State.resetWith p level).now = 0 := rfl

@[simp] theorem State.resetWith_tmrT : (State.resetWith p level).tmrT = 0 := rfl

@[simp] theorem State.resetWith_tmrC : (State.resetWith p level).tmrC = 0 := rfl

@[simp] theorem State.resetWith_tmrD : (State.resetWith p level).tmrD = 0 := rfl

@[simp] theorem State.resetWith_pcT : (State.resetWith p level).pcT = 0 := rfl

@[simp] theorem State.resetWith_pcC : (State.resetWith p level).pcC = 0 := rfl

@[simp] theorem State.resetWith_pcD : (State.resetWith p level).pcD = 0 := rfl

@[simp] theorem State.resetWith_trace : (State.resetWith p level).trace = [] := rfl

@[simp] theorem State.resetWith_btn : (State.resetWith p level).btn = level := rfl

@[simp] theorem State.resetWith_params : (State.resetWith p level).params = p := rfl

@[simp] theorem State.resetWith_setupOk : (State.resetWith p level).setupOk = true := rfl

@[simp] theorem State.resetWith_queue : (State.resetWith p level).queue = [] := rfl

@[simp] theorem State.resetWith_choices : (State.resetWith p level).choices = 0 := rfl

@[simp] theorem State.resetWith_encResult : (State.resetWith p level).encResult = none := rfl

end Sys2Proof.Machine
end

