-- ==== Sys2Proof/Laws/Ops.lean ====
section
/-! SUPPORT. Laws of the shared operations: the cyclic increment, the decoder at the phase counters,
the conditions, and what one step can do. -/

namespace Sys2Proof.Machine

@[simp] theorem cycle_val {n : Nat} (x : Fin (n + 1)) : (cycle x).val = (x.val + 1) % (n + 1) := rfl

@[simp] theorem tensDigit_val (v : Fin 100) : (tensDigit v).val = v.val / 10 := rfl

@[simp] theorem unitsDigit_val (v : Fin 100) : (unitsDigit v).val = v.val % 10 := rfl

@[simp] theorem digitOf_tens (v : Fin 100) : digitOf .tens v = tensDigit v := rfl

@[simp] theorem digitOf_units (v : Fin 100) : digitOf .units v = unitsDigit v := rfl

@[simp] theorem readsCounter_tens (s : State) : readsCounter s .tens = true := rfl

@[simp] theorem readsCounter_units (s : State) : readsCounter s .units = !s.params.snapshot := rfl

@[simp] theorem dueT_iff (s : State) : s.dueT = true ↔ s.tmrT ≤ s.now := by simp [State.dueT]

@[simp] theorem dueC_iff (s : State) : s.dueC = true ↔ s.tmrC ≤ s.now := by simp [State.dueC]

@[simp] theorem dueD_iff (s : State) : s.dueD = true ↔ s.tmrD ≤ s.now := by simp [State.dueD]

@[simp] theorem dueT_eq_false (s : State) : s.dueT = false ↔ s.now < s.tmrT := by
  simp [State.dueT]

@[simp] theorem dueC_eq_false (s : State) : s.dueC = false ↔ s.now < s.tmrC := by
  simp [State.dueC]

@[simp] theorem dueD_eq_false (s : State) : s.dueD = false ↔ s.now < s.tmrD := by
  simp [State.dueD]

/-- The operation at each phase of `PROG_T` (R66). -/
def opT (pc : Fin 6) : Instr :=
  match pc with
  | 0 => .tarm
  | 1 => .waitt
  | 2 => .tadv
  | 3 => .tdrv
  | 4 => .tslp
  | 5 => .twake

/-- The operation at each phase of `PROG_C` (R66). -/
def opC (pc : Fin 3) : Instr :=
  match pc with
  | 0 => .cinc
  | 1 => .cslp
  | 2 => .cwake

/-- The operation at each phase of `PROG_D` (R66). -/
def opD (pc : Fin 10) : Instr :=
  match pc with
  | 0 => .dblk
  | 1 => .dld .tens
  | 2 => .den .tens
  | 3 => .dhld
  | 4 => .dwake
  | 5 => .dblk
  | 6 => .dld .units
  | 7 => .den .units
  | 8 => .dhld
  | 9 => .dwake

/-- The operation at an agent's phase counter. -/
def opAt (a : AgentId) (s : State) : Instr :=
  match a with
  | .toneSelector => opT s.pcT
  | .counter => opC s.pcC
  | .display => opD s.pcD

theorem decode_progT : ∀ pc : Fin 6, decodeWord progT[pc] = .ok (opT pc) := by decide

theorem decode_progC : ∀ pc : Fin 3, decodeWord progC[pc] = .ok (opC pc) := by decide

theorem decode_progD : ∀ pc : Fin 10, decodeWord progD[pc] = .ok (opD pc) := by decide

/-- Every word of a program is an operation (R65, R66). -/
theorem decode_fetchWord (a : AgentId) (s : State) :
    decodeWord (fetchWord a s) = .ok (opAt a s) := by
  cases a
  · exact decode_progT s.pcT
  · exact decode_progC s.pcC
  · exact decode_progD s.pcD

theorem agentEnabled_eq (a : AgentId) (s : State) :
    agentEnabled a s = programOpEnabled (opAt a s) s := by
  simp [agentEnabled, decode_fetchWord]

theorem mayExecute_opT : ∀ pc, mayExecute (.agent .toneSelector) (opT pc) = true := by decide

theorem mayExecute_opC : ∀ pc, mayExecute (.agent .counter) (opC pc) = true := by decide

theorem mayExecute_opD : ∀ pc, mayExecute (.agent .display) (opD pc) = true := by decide

/-- An agent may execute its own program (R130). -/
theorem mayExecute_opAt (a : AgentId) (s : State) : mayExecute (.agent a) (opAt a s) = true := by
  cases a
  · exact mayExecute_opT s.pcT
  · exact mayExecute_opC s.pcC
  · exact mayExecute_opD s.pcD

/-- The operation of a move (R135). -/
def moveOp (s : State) : Move → Instr
  | .btn b => .btn b
  | .tick => .tick
  | .agent a => opAt a s

/-- A step executes the decoded operation, in a context that may execute it and in a state within
its ranges. -/
theorem step_of_decode {s : State} {i : Instr} (hs : s.setupOk = true) (hr : RangesInv s)
    (hi : decodeWord s.fetched.2 = .ok i) (hm : mayExecute s.fetched.1 i = true) :
    step s = exec i s.consume := by
  rw [step, if_pos hs, hi]
  exact (if_pos hm).trans (if_pos hr)

/-- What a move fetches is its operation, in a context that may execute it. -/
theorem fetched_of_move {s : State} {m : Move} (hm : s.nextRequest = .move m) :
    decodeWord s.fetched.2 = .ok (moveOp s m) ∧ mayExecute s.fetched.1 (moveOp s m) = true := by
  rw [State.fetched, hm]
  cases m with
  | btn b => cases b <;> simp only [requested, moveOp] <;> decide
  | tick => simp only [requested, moveOp]; decide
  | agent a => exact ⟨decode_fetchWord a s, mayExecute_opAt a s⟩

/-- A move executes its operation and is never refused (R117, R135). -/
theorem step_of_move {s : State} {m : Move} (hs : s.setupOk = true) (hr : RangesInv s)
    (hm : s.nextRequest = .move m) : step s = exec (moveOp s m) s.consume :=
  step_of_decode hs hr (fetched_of_move hm).1 (fetched_of_move hm).2

/-- The operation that the next step executes, for a move. -/
theorem nextOp_of_move {s : State} {m : Move} (hm : s.nextRequest = .move m) :
    s.nextOp = some (moveOp s m) := by
  rw [State.nextOp, (fetched_of_move hm).1]

/-- What a step that answers a next state has done. -/
theorem step_next {s t : State} (h : step s = .next t) :
    s.setupOk = true ∧ RangesInv s ∧
      ∃ i, s.nextOp = some i ∧ mayExecute s.fetched.1 i = true ∧ exec i s.consume = .next t := by
  unfold step at h
  split at h
  · rename_i hs
    split at h
    · rename_i i hi
      split at h
      · rename_i hm
        split at h
        · rename_i hr
          exact ⟨hs, hr, i, by simp [State.nextOp, hi], hm, h⟩
        · cases h
      · cases h
    · cases h
  · cases h

/-- With moves alone in the queue, the next request is a move. -/
theorem nextRequest_of_onlyMoves {s : State} (h : s.onlyMoves) :
    ∃ m, s.nextRequest = .move m := by
  cases hq : s.queue with
  | nil => exact ⟨Config.freeMove s.choices, by simp [State.nextRequest, hq]⟩
  | cons r rest =>
    obtain ⟨m, rfl⟩ := h r (by simp [hq])
    exact ⟨m, by simp [State.nextRequest, hq]⟩

/-- Serving a request keeps the queue to moves alone. -/
theorem onlyMoves_consume {s : State} (h : s.onlyMoves) : s.consume.onlyMoves := by
  intro r hr
  cases hq : s.queue with
  | nil => simp [State.consume, hq] at hr
  | cons r' rest =>
    rw [State.consume_cons s hq] at hr
    exact h r (by simp [hq, show r ∈ rest from hr])

/-- What a port shows after a successful setup, within the ranges. -/
theorem port_of_ranges {α : Type} {s : State} (hs : s.setupOk = true) (hr : RangesInv s)
    (x : PortRead α) : s.port x = x := (if_pos hs).trans (if_pos hr)

/-- No port shows anything outside the ranges (R29, U13). -/
theorem port_of_not_ranges {α : Type} {s : State} (hs : s.setupOk = true) (hr : ¬ RangesInv s)
    (x : PortRead α) : s.port x = .refused .outOfRange := (if_pos hs).trans (if_neg hr)

/-- No port shows anything after a failed setup (R145). -/
theorem port_of_failed {α : Type} {s : State} (hs : s.setupOk = false) (x : PortRead α) :
    s.port x = .refused .cfg := if_neg (by simp [hs])

/-- No operation changes the queue. -/
theorem exec_queue {i : Instr} {s t : State} (h : exec i s = .next t) : t.queue = s.queue := by
  cases i <;>
    simp only [exec, execEnc, execBtn, execSig, execWait, execWaitt, execTarm, execTadv, execTdrv,
      execTslp, execTwake, execCinc, execCslp, execCwake, execDblk, execDld, execDen, execDhld,
      execDwake, execTick, execRst, Host.Outcome.next.injEq] at h <;>
    subst h <;> (try split) <;> (try split) <;> simp

/-- A step keeps the queue to moves alone. -/
theorem onlyMoves_step {s t : State} (hs : s.onlyMoves) (h : step s = .next t) : t.onlyMoves := by
  obtain ⟨-, -, i, -, -, hi⟩ := step_next h
  intro r hr
  rw [exec_queue hi] at hr
  exact onlyMoves_consume hs r hr

end Sys2Proof.Machine
end

