-- ==== Sys2Proof/Laws/PerInstr.lean ====
section
/-! SUPPORT. Facts about every operation as syntax, one lemma per constructor. -/

namespace Sys2Proof.Laws.RowFits

/-- An operation is well formed, and its word lies in its own row of the opcode map
(spec/30_encoding.md R60 to R64). -/
def Statement (i : Instr) : Prop := WellFormed i ∧ i.row.accepts (encodeWord i) = true

theorem enc (d : DigitCode) : Statement (.enc d) := by
  refine ⟨by simp [WellFormed, AsmStmt.wellFormed, Instr.stmt], ?_⟩
  revert d; decide

theorem btn (b : Bool) : Statement (.btn b) := by cases b <;> exact ⟨rfl, by decide⟩
theorem sig : Statement .sig := ⟨rfl, by decide⟩
theorem wait : Statement .wait := ⟨rfl, by decide⟩
theorem waitt : Statement .waitt := ⟨rfl, by decide⟩
theorem tarm : Statement .tarm := ⟨rfl, by decide⟩
theorem tadv : Statement .tadv := ⟨rfl, by decide⟩
theorem tdrv : Statement .tdrv := ⟨rfl, by decide⟩
theorem tslp : Statement .tslp := ⟨rfl, by decide⟩
theorem twake : Statement .twake := ⟨rfl, by decide⟩
theorem cinc : Statement .cinc := ⟨rfl, by decide⟩
theorem cslp : Statement .cslp := ⟨rfl, by decide⟩
theorem cwake : Statement .cwake := ⟨rfl, by decide⟩
theorem dblk : Statement .dblk := ⟨rfl, by decide⟩
theorem dld (p : Position) : Statement (.dld p) := by cases p <;> exact ⟨rfl, by decide⟩
theorem den (p : Position) : Statement (.den p) := by cases p <;> exact ⟨rfl, by decide⟩
theorem dhld : Statement .dhld := ⟨rfl, by decide⟩
theorem dwake : Statement .dwake := ⟨rfl, by decide⟩
theorem tick : Statement .tick := ⟨rfl, by decide⟩
theorem rst : Statement .rst := ⟨rfl, by decide⟩

end Sys2Proof.Laws.RowFits
end

