-- ==== Sys2Proof/Laws/Runs.lean ====
section
/-! SUPPORT. What the premises of spec/60_exceptions.md R137 give: in an infinite run that is weakly
fair to an agent and in which time progresses, the agent executes every operation of its program
infinitely often, so the buzzer is re-driven, the counter advances and the display refreshes. -/

namespace Sys2Proof.Machine

/-- The deadline register of an agent (R26). -/
def State.deadline (s : State) : AgentId → Nat
  | .toneSelector => s.tmrT
  | .counter => s.tmrC
  | .display => s.tmrD

/-- At its deadline an agent is enabled, whatever it stands at (R136). -/
theorem agentEnabled_of_due {a : AgentId} {s : State} (h : s.deadline a ≤ s.now) :
    agentEnabled a s = true := by
  rw [agentEnabled_eq]
  cases a with
  | toneSelector =>
    have hd : s.dueT = true := (dueT_iff s).2 h
    simp only [opAt, opT]; split <;> simp [programOpEnabled, hd]
  | counter =>
    have hd : s.dueC = true := (dueC_iff s).2 h
    simp only [opAt, opC]; split <;> simp [programOpEnabled, hd]
  | display =>
    have hd : s.dueD = true := (dueD_iff s).2 h
    simp only [opAt, opD]; split <;> simp [programOpEnabled, hd]

/-- The operations of one agent: the context of its operation is the agent. -/
theorem contextFor_opAt (a : AgentId) (s : State) : contextFor (opAt a s) = .agent a := by
  cases a with
  | toneSelector => simp only [opAt]; generalize s.pcT = p; revert p; decide
  | counter => simp only [opAt]; generalize s.pcC = p; revert p; decide
  | display => simp only [opAt]; generalize s.pcD = p; revert p; decide

/-- An operation of another context leaves an agent's phase and deadline, and time does not go
back. -/
theorem exec_keeps_agent {a : AgentId} {i : Instr} {s t : State} (hi : contextFor i ≠ .agent a)
    (hr : i ≠ .rst) (h : exec i s = .next t) :
    t.phase a = s.phase a ∧ t.deadline a = s.deadline a ∧ s.now ≤ t.now := by
  cases a <;> cases i <;> first | exact absurd rfl hi | exact absurd rfl hr | skip
  all_goals
    simp only [exec, execEnc, execBtn, execSig, execWait, execWaitt, execTarm, execTadv, execTdrv,
      execTslp, execTwake, execCinc, execCslp, execCwake, execDblk, execDld, execDen, execDhld,
      execDwake, execTick, Host.Outcome.next.injEq] at h
    subst h
    (try split) <;> (try split) <;> simp [State.phase, State.deadline]

/-- An agent's own operation advances its phase when it is enabled and changes nothing when it is
held; time stays (R27, R136). -/
theorem exec_own {a : AgentId} {s t : State} (h : exec (opAt a s) s = .next t) :
    (agentEnabled a s = true → t.phase a = (s.phase a + 1) % programLength a) ∧
      (agentEnabled a s = false → t = s) ∧ s.now ≤ t.now := by
  rw [agentEnabled_eq]
  cases a with
  | toneSelector =>
    revert h; simp only [opAt, opT]; split <;> intro h <;>
    simp only [exec, execTarm, execWaitt, execTadv, execTdrv, execTslp, execTwake,
      Host.Outcome.next.injEq] at h <;>
    subst h <;> simp [programOpEnabled, State.phase, programLength] <;>
    (try split) <;> (try split) <;> simp_all
  | counter =>
    revert h; simp only [opAt, opC]; split <;> intro h <;>
    simp only [exec, execCinc, execCslp, execCwake, Host.Outcome.next.injEq] at h <;>
    subst h <;> simp [programOpEnabled, State.phase, programLength]
    split <;> simp_all
  | display =>
    revert h; simp only [opAt, opD]; split <;> intro h <;>
    simp only [exec, execDblk, execDld, execDen, execDhld, execDwake,
      Host.Outcome.next.injEq] at h <;>
    subst h <;> simp [programOpEnabled, State.phase, programLength] <;> (try split) <;> simp_all

variable {σ : Nat → State} {μ : Nat → Move}

/-- One position of a run executes the operation of its move. -/
theorem IsRun.exec_at (h : IsRun σ μ) (n : Nat) :
    exec (moveOp (σ n) (μ n)) { σ n with queue := [] } = .next (σ (n + 1)) := by
  obtain ⟨hs, hr, -⟩ := step_next (h n)
  have := step_of_move (s := { σ n with queue := [.move (μ n)] }) (m := μ n) hs hr rfl
  rw [h n] at this
  rw [this]
  cases μ n with
  | agent a => cases a <;> rfl
  | btn b => rfl
  | tick => rfl

/-- Until an agent completes an operation, its phase and deadline stay. -/
theorem IsRun.waits_at (h : IsRun σ μ) {a : AgentId} {n : Nat} (hc : ¬ Completes σ μ a n) :
    (σ (n + 1)).phase a = (σ n).phase a ∧ (σ (n + 1)).deadline a = (σ n).deadline a ∧
      (σ n).now ≤ (σ (n + 1)).now := by
  have he := h.exec_at n
  by_cases hm : μ n = .agent a
  · rw [hm] at he
    have hf : agentEnabled a { σ n with queue := [] } = false := by
      have : agentEnabled a (σ n) = false := by simpa [Completes, hm] using hc
      rw [← this]; cases a <;> rfl
    have he' : exec (opAt a { σ n with queue := [] }) { σ n with queue := [] } =
        .next (σ (n + 1)) := by rw [← he]; cases a <;> rfl
    rw [(exec_own he').2.1 hf]
    exact ⟨by cases a <;> rfl, by cases a <;> rfl, le_refl _⟩
  · have hctx : contextFor (moveOp (σ n) (μ n)) ≠ .agent a := by
      cases hμ : μ n with
      | agent b =>
        rw [moveOp, contextFor_opAt]; intro hb; cases hb; exact hm hμ
      | btn b => simp [moveOp, contextFor]
      | tick => simp [moveOp, contextFor]
    have hrst : moveOp (σ n) (μ n) ≠ .rst := by
      intro hr
      cases hμ : μ n with
      | agent b =>
        rw [hμ, moveOp] at hr
        have := contextFor_opAt b (σ n); rw [hr] at this; cases this
      | btn b => rw [hμ] at hr; cases hr
      | tick => rw [hμ] at hr; cases hr
    obtain ⟨h1, h2, h3⟩ := exec_keeps_agent hctx hrst he
    exact ⟨by rw [h1]; cases a <;> rfl, by rw [h2]; cases a <;> rfl, h3⟩

/-- While an agent completes nothing, time goes on and nothing of it changes. -/
theorem IsRun.waits (h : IsRun σ μ) {a : AgentId} {n k : Nat}
    (hc : ∀ m, n ≤ m → m < n + k → ¬ Completes σ μ a m) :
    (σ (n + k)).phase a = (σ n).phase a ∧ (σ (n + k)).deadline a = (σ n).deadline a ∧
      (σ n).now ≤ (σ (n + k)).now := by
  induction k with
  | zero => simp
  | succ k ih =>
    obtain ⟨h1, h2, h3⟩ := ih fun m hm hk => hc m hm (by omega)
    obtain ⟨g1, g2, g3⟩ := h.waits_at (hc (n + k) (by omega) (by omega))
    exact ⟨g1.trans h1, g2.trans h2, h3.trans g3⟩

/-- A tick that is executed advances time. -/
theorem IsRun.tick_at (h : IsRun σ μ) {n : Nat} (hm : μ n = .tick)
    (he : enabled .tick (σ n) = true) : (σ (n + 1)).now = (σ n).now + 1 := by
  have hx := h.exec_at n
  rw [hm] at hx
  have ht : State.tickEnabled { σ n with queue := [] } = true := he
  simp only [moveOp, exec, execTick, ht, if_true, Host.Outcome.next.injEq] at hx
  rw [← hx]

/-- With time progressing, an agent that completes nothing sees every tick come. -/
theorem IsRun.time_passes (h : IsRun σ μ) (ht : TimeProgresses σ μ) {a : AgentId} {n : Nat}
    (hc : ∀ m, n ≤ m → ¬ Completes σ μ a m) (k : Nat) : ∃ m, n ≤ m ∧ k ≤ (σ m).now := by
  induction k with
  | zero => exact ⟨n, le_refl n, Nat.zero_le _⟩
  | succ k ih =>
    obtain ⟨m, hm, hk⟩ := ih
    obtain ⟨p, hp, hμ, he⟩ := ht m
    obtain ⟨d, rfl⟩ := Nat.exists_eq_add_of_le hp
    have := (h.waits (a := a) (n := m) (k := d) fun q hq _ => hc q (by omega)).2.2
    exact ⟨m + d + 1, by omega, by rw [h.tick_at hμ he]; omega⟩

/-- R137: under its premises an agent always completes another operation. -/
theorem IsRun.completes_again (h : IsRun σ μ) {a : AgentId} (hf : WeaklyFair a σ μ)
    (ht : TimeProgresses σ μ) (n : Nat) : ∃ m, n ≤ m ∧ Completes σ μ a m := by
  by_contra hno
  have hc : ∀ m, n ≤ m → ¬ Completes σ μ a m := fun m hm hcm => hno ⟨m, hm, hcm⟩
  obtain ⟨p, hp, hk⟩ := h.time_passes ht hc ((σ n).deadline a)
  have hen : ∀ m, p ≤ m → agentEnabled a (σ m) = true := by
    intro m hm
    obtain ⟨d, rfl⟩ := Nat.exists_eq_add_of_le hp
    obtain ⟨e, rfl⟩ := Nat.exists_eq_add_of_le hm
    have h1 := (h.waits (a := a) (n := n) (k := d) fun q hq _ => hc q hq).2.1
    have h2 := h.waits (a := a) (n := n + d) (k := e) fun q hq _ => hc q (by omega)
    exact agentEnabled_of_due (by rw [h2.2.1, h1]; exact hk.trans h2.2.2)
  obtain ⟨m, hm, hμ⟩ := hf p hen
  exact hc m (hp.trans hm) ⟨hμ, hen m hm⟩

/-- The next completed operation of an agent is the one it stands at, and leaves it at the next. -/
theorem IsRun.next_completion (h : IsRun σ μ) {a : AgentId} (hf : WeaklyFair a σ μ)
    (ht : TimeProgresses σ μ) (n : Nat) :
    ∃ m, n ≤ m ∧ Completes σ μ a m ∧ (σ m).phase a = (σ n).phase a ∧
      (σ (m + 1)).phase a = ((σ n).phase a + 1) % programLength a := by
  classical
  have hex := h.completes_again hf ht n
  obtain ⟨hm, hcm⟩ := Nat.find_spec hex
  have hmin : ∀ q, n ≤ q → q < Nat.find hex → ¬ Completes σ μ a q :=
    fun q hq hlt hcq => Nat.find_min hex hlt ⟨hq, hcq⟩
  generalize Nat.find hex = m at hm hcm hmin
  obtain ⟨d, rfl⟩ := Nat.exists_eq_add_of_le hm
  have hp := (h.waits (a := a) (n := n) (k := d) hmin).1
  refine ⟨n + d, hm, hcm, hp, ?_⟩
  have he := h.exec_at (n + d)
  rw [hcm.1] at he
  have he' : exec (opAt a { σ (n + d) with queue := [] }) { σ (n + d) with queue := [] } =
      .next (σ (n + d + 1)) := by rw [← he]; cases a <;> rfl
  have hen : agentEnabled a { σ (n + d) with queue := [] } = true := by
    rw [← hcm.2]; cases a <;> rfl
  rw [(exec_own he').1 hen, ← hp]
  cases a <;> rfl

theorem phase_lt (s : State) (a : AgentId) : s.phase a < programLength a := by
  cases a
  · exact s.pcT.isLt
  · exact s.pcC.isLt
  · exact s.pcD.isLt

/-- R137, with R92, R95 and R101: in a run that is weakly fair to an agent and in which time
progresses, the agent completes the operation at every phase of its program infinitely often; so
`TDRV` re-drives the buzzer, `CINC` advances the counter and the display's frames go on for ever. -/
theorem IsRun.every_phase_recurs (h : IsRun σ μ) {a : AgentId} (hf : WeaklyFair a σ μ)
    (ht : TimeProgresses σ μ) {k : Nat} (hk : k < programLength a) (n : Nat) :
    ∃ m, n ≤ m ∧ Completes σ μ a m ∧ (σ m).phase a = k := by
  have reach : ∀ d n, ∃ m, n ≤ m ∧ (σ m).phase a = ((σ n).phase a + d) % programLength a := by
    intro d
    induction d with
    | zero => exact fun n => ⟨n, le_refl n, (Nat.mod_eq_of_lt (phase_lt (σ n) a)).symm⟩
    | succ d ih =>
      intro n
      obtain ⟨m, hm, hp⟩ := ih n
      obtain ⟨q, hq, -, -, hq'⟩ := h.next_completion hf ht m
      exact ⟨q + 1, by omega, by rw [hq', hp]; simp [Nat.add_assoc]⟩
  obtain ⟨m, hm, hp⟩ := reach (k + programLength a - (σ n).phase a) n
  have hpk : (σ m).phase a = k := by
    have := phase_lt (σ n) a
    rw [hp, show (σ n).phase a + (k + programLength a - (σ n).phase a) = k + programLength a by
      omega, Nat.add_mod_right, Nat.mod_eq_of_lt hk]
  obtain ⟨q, hq, hc, hqp, -⟩ := h.next_completion hf ht m
  exact ⟨q, hm.trans hq, hc, hqp.trans hpk⟩

end Sys2Proof.Machine
end

