-- ==== Sys2Proof/Tests/Slice0.lean ====
section
/-! SUPPORT. Tests: words written out from spec/30_encoding.md R64, vectors of
spec/95_test_vectors.md, and a witness for the hypotheses of every statement. Expected values come
from the spec; where a vector needs an open parameter it uses the value 95_test_vectors.md names
(T_POLL = 16, T_TSLEEP = 1, SNAPSHOT = false, the default SEG_TABLE). -/

namespace Sys2Proof.Tests

open Sys2Proof Sys2Proof.Machine

/-- The parameters 95_test_vectors.md uses; it leaves DUTY symbolic, 7 stands for it here. -/
def vectorParams : Params where
  segTable := segTableDefault
  segActiveLow := false
  digActiveLow := false
  tPoll := .sixteen
  tTSleep := 1
  duty := 7
  snapshot := false
  maxProg := false

/-- Reset with the line at 1 under those parameters; the undriven latches hold 0 here. -/
def base : State := { State.resetWith vectorParams true with buzf := 0, buzd := 0 }

/-- The same with `MAXPROG` = true. -/
def basePaced : State := { base with params := { vectorParams with maxProg := true } }

/-- Every agent held: the last row but two of V-TICK. -/
def allHeldState : State :=
  { basePaced with pcT := 1, tmrT := 16, pcC := 2, tmrC := 1000, pcD := 4, tmrD := 1 }

/-- The state an operation leaves. -/
def after (i : Instr) (s : State) : State :=
  match exec i s with
  | .next t => t
  | .fault _ => s
  | .refused _ => s

/-- The state a step leaves, if it leaves one. -/
def stepped (s : State) : Option State :=
  match step s with
  | .next t => some t
  | .fault _ => none
  | .refused _ => none

/-- The refusal a step ends in, if it does. -/
def refusalOf (s : State) : Option Refusal :=
  match step s with
  | .refused r => some r
  | .next _ => none
  | .fault _ => none

theorem exec_after (i : Instr) (s : State) : exec i s = .next (after i s) := by cases i <;> rfl

/-! ### Well-formedness: an ill-formed statement for each check (R68, R63) -/

theorem test_wf_enc_range : (AsmStmt.mk .enc (.number 16)).wellFormed = false := by decide
theorem test_wf_enc_missing : (AsmStmt.mk .enc .absent).wellFormed = false := by decide
theorem test_wf_btn_range : (AsmStmt.mk .btn (.number 2)).wellFormed = false := by decide
theorem test_wf_btn_position : (AsmStmt.mk .btn (.position .tens)).wellFormed = false := by decide
theorem test_wf_dld_number : (AsmStmt.mk .dld (.number 0)).wellFormed = false := by decide
theorem test_wf_den_missing : (AsmStmt.mk .den .absent).wellFormed = false := by decide
theorem test_wf_sig_operand : (AsmStmt.mk .sig (.number 0)).wellFormed = false := by decide
theorem test_wf_enc_top : (AsmStmt.mk .enc (.number 15)).wellFormed = true := by decide

/-! ### Decoding: V-DEC, words written out bit by bit -/

theorem test_dec_enc : decodeWord 0b00001001 = .ok (.enc 9) := by decide
theorem test_dec_enc_top : decodeWord 0b00001111 = .ok (.enc 15) := by decide
theorem test_dec_btn0 : decodeWord 0b00010000 = .ok (.btn false) := by decide
theorem test_dec_btn1 : decodeWord 0b00010001 = .ok (.btn true) := by decide
theorem test_dec_sig : decodeWord 0b00010010 = .ok .sig := by decide
theorem test_dec_wait : decodeWord 0b00010011 = .ok .wait := by decide
theorem test_dec_waitt : decodeWord 0b00010100 = .ok .waitt := by decide
theorem test_dec_tarm : decodeWord 0b00100000 = .ok .tarm := by decide
theorem test_dec_tadv : decodeWord 0b00100001 = .ok .tadv := by decide
theorem test_dec_tdrv : decodeWord 0b00100010 = .ok .tdrv := by decide
theorem test_dec_tslp : decodeWord 0b00100011 = .ok .tslp := by decide
theorem test_dec_twake : decodeWord 0b00100100 = .ok .twake := by decide
theorem test_dec_cinc : decodeWord 0b00110000 = .ok .cinc := by decide
theorem test_dec_cslp : decodeWord 0b00110001 = .ok .cslp := by decide
theorem test_dec_cwake : decodeWord 0b00110010 = .ok .cwake := by decide
theorem test_dec_dblk : decodeWord 0b01000000 = .ok .dblk := by decide
theorem test_dec_dld_t : decodeWord 0b01000010 = .ok (.dld .tens) := by decide
theorem test_dec_dld_u : decodeWord 0b01000011 = .ok (.dld .units) := by decide
theorem test_dec_den_t : decodeWord 0b01000100 = .ok (.den .tens) := by decide
theorem test_dec_den_u : decodeWord 0b01000101 = .ok (.den .units) := by decide
theorem test_dec_dhld : decodeWord 0b01000110 = .ok .dhld := by decide
theorem test_dec_dwake : decodeWord 0b01000111 = .ok .dwake := by decide
theorem test_dec_tick : decodeWord 0b01010000 = .ok .tick := by decide
theorem test_dec_rst : decodeWord 0b11111111 = .ok .rst := by decide
theorem test_dec_invalid :
    decodeWord 0x15 = .error (.invalid 0x15) ∧ decodeWord 0x25 = .error (.invalid 0x25) ∧
    decodeWord 0x33 = .error (.invalid 0x33) ∧ decodeWord 0x41 = .error (.invalid 0x41) ∧
    decodeWord 0x48 = .error (.invalid 0x48) ∧ decodeWord 0x51 = .error (.invalid 0x51) ∧
    decodeWord 0x60 = .error (.invalid 0x60) ∧ decodeWord 0xFE = .error (.invalid 0xFE) := by
  decide
theorem test_dec_noWord : decodeBytes [] = .error .noWord := by decide
theorem test_dec_table : decodeTableWord 8 0x43 = some (.dld .units) := by decide

/-! ### Assembly text (R68, R69) -/

theorem test_asm_agent : readLine "T: TDRV" = some ⟨some (.agent .toneSelector), .tdrv⟩ := by decide
theorem test_asm_env : readLine "ENV: BTN 0 ; falls" = some ⟨some .env, .btn false⟩ := by decide
theorem test_asm_hex : readLine "ENC 0xF" = some ⟨none, .enc 15⟩ := by decide
theorem test_asm_range : readLine "ENC 16" = none := by decide
theorem test_asm_frame :
    (readPseudo "FRAME").map (List.map encodeWord) = some progD.toList := by decide

/-! ### One operation on a small state -/

/-- V-ENC: `ENC 4` = 0x66, and no register changes. -/
theorem test_enc : after (.enc 4) base = { base with encResult := some 0x66 } := by decide
theorem test_enc_top : (after (.enc 15) base).encResult = some 0x71 := by decide
/-- V-BTN: falling edge, and a steady low line. -/
theorem test_btn_fall :
    (after (.btn false) base).pend = true ∧ (after (.btn false) base).btnq = false ∧
    (after (.btn false) base).trace = [.sig] := by decide
theorem test_btn_steady :
    (after (.btn false) { base with btnq := false }).pend = false ∧
    (after (.btn false) { base with btnq := false }).trace = [] := by decide
/-- V-SIG: idempotent. -/
theorem test_sig : (after .sig { base with pend := true }).pend = true := by decide
/-- V-WAIT: taken, and held. -/
theorem test_wait_take :
    (after .wait { base with pend := true, pcT := 5 }).pcT = 0 ∧
    (after .wait { base with pend := true, pcT := 5 }).got = true := by decide
theorem test_wait_held : after .wait base = base := by decide
/-- V-WAIT: signal and elapsed deadline, the signal wins (D16). -/
theorem test_waitt_tie :
    (after .waitt { base with pend := true, now := 20, tmrT := 16, pcT := 1 }).got = true := by
  decide
/-- V-WAIT: the boundary NOW = TMR_T. -/
theorem test_waitt_boundary :
    (after .waitt { base with got := true, now := 16, tmrT := 16, pcT := 1 }).got = false ∧
    (after .waitt { base with now := 16, tmrT := 16, pcT := 1 }).trace = [.timeout] := by decide
/-- R86: NOW = 20, T_POLL = 16. -/
theorem test_tarm :
    (after .tarm { base with now := 20 }).tmrT = 36 ∧
    (after .tarm { base with now := 20 }).pcT = 1 := by decide
/-- V-TONE: the wrap, and no signal. -/
theorem test_tadv_wrap : (after .tadv { base with tidx := 5, got := true, pcT := 2 }).tidx = 0 := by
  decide
theorem test_tadv_idle : (after .tadv { base with tidx := 5, pcT := 2 }).tidx = 5 := by decide
/-- V-TONE: index 5 and index 2. -/
theorem test_tdrv_top :
    (after .tdrv { base with tidx := 5 }).buzf = 9500 ∧
    (after .tdrv { base with tidx := 5 }).trace = [.buzzSet 9500 7] := by decide
theorem test_tdrv : (after .tdrv { base with tidx := 2 }).buzf = 1500 := by decide
theorem test_tslp : (after .tslp { base with now := 40, pcT := 4 }).tmrT = 41 := by decide
theorem test_twake :
    (after .twake { base with now := 41, tmrT := 41, pcT := 5 }).pcT = 0 := by decide
theorem test_twake_held :
    after .twake { base with now := 40, tmrT := 41 } = { base with now := 40, tmrT := 41 } := by
  decide
/-- V-CINC: the wrap. -/
theorem test_cinc_wrap :
    (after .cinc { base with cnt := 99 }).cnt = 0 ∧
    (after .cinc { base with cnt := 99 }).trace = [.inc 0] := by decide
theorem test_cslp : (after .cslp { base with now := 1003, pcC := 1 }).tmrC = 2003 := by decide
theorem test_cwake_held :
    (after .cwake { base with now := 999, tmrC := 1000, pcC := 2 }).pcC = 2 := by decide
theorem test_cwake : (after .cwake { base with now := 1000, tmrC := 1000, pcC := 2 }).pcC = 0 := by
  decide
/-- V-DLD: `CNT` = 42 under the default table. -/
theorem test_dld_tens :
    (after (.dld .tens) { base with cnt := 42, pcD := 1 }).seg = 0x66 ∧
    (after (.dld .tens) { base with cnt := 42, pcD := 1 }).dgt = 4 := by decide
/-- P3, last remark: with `SNAPSHOT` = true the frame at 19 to 20 shows "19". -/
theorem test_dld_snapshot :
    (after (.dld .units) { base with
      cnt := 20, val := 19, params := { vectorParams with snapshot := true } }).dgt = 9 ∧
    (after (.dld .units) { base with cnt := 20, val := 19 }).dgt = 0 := by decide
theorem test_dblk : (after .dblk { base with dig := .tens, pcD := 5 }).dig.bits = 0b00 := by decide
theorem test_den :
    (after (.den .tens) { base with pcD := 2 }).dig.bits = 0b10 ∧
    (after (.den .units) { base with pcD := 7 }).dig.bits = 0b01 := by decide
theorem test_dhld : (after .dhld { base with now := 7, pcD := 3 }).tmrD = 8 := by decide
theorem test_dwake :
    (after .dwake { base with now := 8, tmrD := 8, pcD := 9 }).pcD = 0 ∧
    (after .dwake { base with now := 7, tmrD := 8, pcD := 9 }).pcD = 9 := by decide
/-- V-TICK: `MAXPROG` = true with a `CINC` enabled, and with all agents held. -/
theorem test_tick : (after .tick { base with now := 999 }).now = 1000 := by decide
theorem test_tick_maxprog :
    (after .tick basePaced).now = 0 ∧ (after .tick allHeldState).now = 1 := by decide
/-- V-RST: the line at 0. -/
theorem test_rst :
    (after .rst { base with cnt := 5, now := 3, trace := [.sig], btn := false }).btnq = false ∧
    (after .rst { base with cnt := 5, now := 3, trace := [.sig] }).trace = [] := by decide

/-! ### Ports (V-ENC, V-DLD pin levels) -/

theorem test_segPins_low :
    segPins { base with seg := 0x66, params := { vectorParams with segActiveLow := true } } =
      .shows 0b0011001 := by decide
theorem test_digPins_low :
    digPins { base with dig := .tens, params := { vectorParams with digActiveLow := true } } =
      .shows 0b01 := by decide

/-- U13: a digit code 10, a pattern outside the table, a frequency that is no tone. -/
theorem test_ports_out_of_range :
    digPins { base with dgt := 10 } = .refused .outOfRange ∧
    segPins { base with seg := 0x77 } = .refused .outOfRange ∧
    buzFreqPin { base with buzv := true, buzf := 440, buzd := 7 } = .refused .outOfRange := by decide

/-- R145: a failed setup, also with the buzzer driven. -/
theorem test_ports_setup_failed :
    segPins { base with setupOk := false } = .refused .cfg ∧
    digPins { base with setupOk := false } = .refused .cfg ∧
    buzDutyPin { base with setupOk := false, buzv := true, buzf := 500, buzd := 7 } =
      .refused .cfg := by decide

theorem test_step_out_of_range :
    refusalOf { base with dgt := 10, queue := [.move .tick] } = some .outOfRange ∧
    refusalOf { base with buzv := true, buzf := 500, buzd := 8, queue := [.move .tick] } =
      some .outOfRange := by decide

/-! ### A step as the first step after reset -/

theorem test_step_reset_rst : ((stepped (State.reset.withFetchWord 8 0xFF)).map State.now) = some 0 := by
  decide
theorem test_step_reset_cinc :
    ((stepped (State.reset.withFetchWord 8 0x30)).map State.cnt) = some 1 := by decide
theorem test_step_bad_word : refusalOf (State.reset.withFetchWord 8 0x41) = some (.badOp 0x41) := by
  decide
theorem test_step_wrong_context :
    refusalOf { base with queue := [.asked (.agent .display) 0x30] } = some .ctx ∧
    refusalOf { base with queue := [.asked .handler 0x14] } = some .ctx := by decide
/-- R37, P5: agent `C` takes the first step. -/
theorem test_step_agent :
    ((stepped { base with queue := [.move (.agent .counter)] }).map State.cnt) = some 1 := by decide

/-! ### Witnesses: the hypotheses of every statement can be met -/

/-- Moves alone in a list of requests, for the witnesses below. -/
theorem onlyMoves_single (s : State) (m : Move) (h : s.queue = [.move m]) : s.onlyMoves := by
  intro r hr
  rw [h] at hr
  exact ⟨m, by simpa using hr⟩

theorem step_stepped (s t : State) (h : stepped s = some t) : step s = .next t := by
  unfold stepped at h
  split at h
  · cases h; assumption
  · cases h
  · cases h

theorem witness_DecodeOfEncode : WellFormed (.enc 15) ∧ WellFormed (.den .units) := by decide

/-- A word outside the map at each end of its ranges. -/
theorem witness_UnassignedWordsAreRefused :
    ({ base with queue := [.asked .env 0x15] } : State).setupOk = true ∧
    ({ base with queue := [.asked .env 0x15] } : State).nextRequest = .asked .env 0x15 ∧
    unassigned 0x15 ∧ unassigned 0xFE := by
  refine ⟨rfl, rfl, ?_, ?_⟩ <;> unfold unassigned <;> decide

theorem witness_StepExecutesDecodedWord :
    base.setupOk = true ∧ RangesInv base ∧
    decodeWord (State.fetched { base with queue := [.move (.agent .display)] }).2 = .ok .dblk ∧
    mayExecute (State.fetched { base with queue := [.move (.agent .display)] }).1 .dblk = true ∧
    ({ base with queue := [.move .tick] } : State).queue = .move .tick :: [] ∧
    base.queue = [] := by decide

theorem witness_PhaseCountersOnlyAdvance :
    ({ base with queue := [.move (.agent .counter)] } : State).queue = [.move (.agent .counter)] ∧
    (∃ t, exec .twake { base with pcT := 5 } = .next t) ∧ Instr.twake ≠ .rst ∧
    ∃ t, exec .rst base = .next t := ⟨rfl, ⟨_, rfl⟩, by decide, ⟨_, rfl⟩⟩

/-- The held operation of agent `C`, and a step of agent `T`. -/
theorem witness_OtherAgentsNeverLiftAHold :
    Instr.cwake ∈ [Instr.wait, .waitt, .twake, .cwake, .dwake] ∧ contextFor .tarm ≠ .env ∧
    contextFor .tarm ≠ contextFor .cwake ∧ enabled .cwake { base with tmrC := 1 } = false ∧
    ∃ t, exec .tarm { base with tmrC := 1 } = .next t :=
  ⟨by decide, by decide, by decide, by decide, _, rfl⟩

theorem witness_HeldOperationsChangeNothing :
    enabled .wait base = false ∧ enabled .tick basePaced = false ∧
    enabled .dwake { base with tmrD := 1 } = false := by decide

theorem witness_SetupDecidesWhetherTheBlockRuns :
    ({ base with setupOk := false } : State).setupOk = false ∧ base.setupOk = true ∧
    RangesInv { base with queue := [.move .tick] } ∧
    ({ base with queue := [.move .tick] } : State).onlyMoves :=
  ⟨rfl, rfl, by decide, onlyMoves_single _ .tick rfl⟩

theorem witness_OperationsKeepWhatIsNoRegister :
    (∃ t, exec (.btn false) base = .next t) ∧ (∃ t, exec .rst base = .next t) ∧
    (∀ b, Instr.cinc ≠ .btn b) ∧ (∀ d, Instr.cinc ≠ .enc d) ∧ Instr.cinc ≠ .rst :=
  ⟨⟨_, rfl⟩, ⟨_, rfl⟩, by decide, by decide, by decide⟩

theorem witness_WaitTakesThePendingSignal :
    ({ base with pend := true } : State).pend = true ∧ base.pend = false := ⟨rfl, rfl⟩

/-- Operations that do not signal: a falling edge of no line at 1, and a tick. -/
theorem witness_WaitTakesThePendingSignal_hold :
    base.pend = false ∧ (∃ t, exec .tick base = .next t) ∧ Instr.tick ≠ .sig ∧
    ¬ (Instr.tick = .btn false ∧ base.btnq = true) ∧
    ¬ (Instr.btn false = .btn false ∧ ({ base with btnq := false } : State).btnq = true) :=
  ⟨rfl, ⟨_, rfl⟩, by decide, by decide, by decide⟩

/-- Each clause of R79, the second at its boundary. -/
theorem witness_WaittTakesTimesOutOrIsHeld :
    ({ base with pend := true } : State).pend = true ∧
    (base.pend = false ∧ base.tmrT ≤ base.now) ∧
    (base.pend = false ∧ base.now < ({ base with tmrT := 1 } : State).tmrT) := by decide

/-- Two signals with other operations between them, one of them by a press and release (P2). -/
theorem witness_SignalsCoalesce :
    (∀ i ∈ [Instr.btn false, .btn true, .tick, .sig], i ∉ [Instr.wait, .waitt, .rst]) ∧
    (∃ u, execAll [.btn false, .btn true, .tick, .sig] base = .next u ∧
      sigCount base < sigCount u) ∧
    (∃ u, execAll [.sig, .btn false, .btn true, .tick, .sig] base = .next u) ∧
    ∃ v, execAll (.sig :: [Instr.btn false, .btn true, .tick, .sig].filter (· ≠ .sig)) base =
      .next v := by
  refine ⟨by decide, ⟨_, rfl, by decide⟩, ⟨_, rfl⟩, ?_⟩
  exact ⟨_, rfl⟩

/-- After a taken signal the next `WAITT` is before its deadline. -/
theorem witness_SignalsCoalesce_held :
    (after .waitt (after .sig { base with tmrT := 1 })).now <
      (after .waitt (after .sig { base with tmrT := 1 })).tmrT := by decide

theorem witness_SignalsAreKeptUntilAWait :
    ∀ i ∈ [Instr.tick, .twake, .btn true], i ∉ [Instr.wait, .waitt, .rst] := by decide

theorem witness_InterruptEntrySavesNothing : base.btnq = true := rfl

theorem witness_TslpStartsTheSleep :
    ({ base with params := { vectorParams with tTSleep := 0 } } : State).params.tTSleep = 0 := rfl

theorem witness_TwakeEndsTheSleep :
    base.tmrT ≤ base.now ∧ base.now < ({ base with tmrT := 1 } : State).tmrT := by decide

theorem witness_CwakeEndsTheSecond :
    base.tmrC ≤ base.now ∧ base.now < ({ base with tmrC := 1 } : State).tmrC := by decide

theorem witness_DwakeEndsTheWindow :
    base.tmrD ≤ base.now ∧ base.now < ({ base with tmrD := 1 } : State).tmrD := by decide

theorem witness_DigitsDetermineTheValue :
    tensDigit 42 = tensDigit 42 ∧ unitsDigit 42 = unitsDigit 42 := ⟨rfl, rfl⟩

/-- The frame of P3: the block's own operations and one increment between the two reads. -/
theorem witness_FramesMayStraddleAnIncrement :
    exec (.dld .tens) { base with cnt := 19 } = .next (after (.dld .tens) { base with cnt := 19 }) ∧
    (∀ i ∈ [Instr.den .tens, .dhld, .cinc, .tick, .dwake, .dblk],
      i ∉ [Instr.dld .tens, .dld .units, .rst]) ∧
    (∃ u, execAll [.den .tens, .dhld, .cinc, .tick, .dwake, .dblk]
        (after (.dld .tens) { base with cnt := 19 }) = .next u ∧
      ∃ v, exec (.dld .units) u = .next v) ∧ (20 : Fin 100) = cycle 19 :=
  ⟨rfl, by decide, ⟨_, rfl, _, rfl⟩, by decide⟩

theorem witness_TickAdvancesTime :
    base.params.maxProg = false ∧ AllAgentsHeld allHeldState ∧
    basePaced.params.maxProg = true ∧ ¬ AllAgentsHeld basePaced := by
  refine ⟨rfl, ?_, rfl, ?_⟩ <;> unfold AllAgentsHeld <;> decide

/-- A delay of each agent that has just ended. -/
theorem witness_DelaysAreLowerBounds :
    (∃ u, execAll (.tarm :: List.replicate 16 .tick) base = .next u ∧ u.pend = false ∧
      enabled .waitt u = true) ∧
    (∃ u, execAll (.tslp :: [.tick]) base = .next u ∧ enabled .twake u = true) ∧
    (∃ u, execAll (.dhld :: [.tick]) base = .next u ∧ enabled .dwake u = true) ∧
    ({ base with params := { vectorParams with tTSleep := 0 } } : State).params.tTSleep = 0 :=
  ⟨⟨_, rfl, by decide, by decide⟩, ⟨_, rfl, by decide⟩, ⟨_, rfl, by decide⟩, rfl⟩

/-- Ticks run while nothing holds time. -/
theorem ticks_run (k : Nat) : ∀ s : State, s.params.maxProg = false →
    execAll (List.replicate k .tick) s = .next { s with now := s.now + k } := by
  induction k with
  | zero => intro s _; rfl
  | succ k ih =>
    intro s h
    have h1 : exec .tick s = .next { s with now := s.now + 1 } := by
      simp [exec, execTick, State.tickEnabled, h]
    simp only [List.replicate_succ, execAll, h1]
    rw [ih { s with now := s.now + 1 } h]
    simp [Nat.add_assoc, Nat.add_comm 1 k]

theorem execAll_cons {i : Instr} {is : List Instr} {s u t : State} (h : exec i s = .next u)
    (ht : execAll is u = .next t) : execAll (i :: is) s = .next t := by
  simpa [execAll, h] using ht

theorem witness_DelaysAreLowerBounds_counter :
    ∃ u, execAll (.cslp :: List.replicate 1000 .tick) base = .next u ∧ enabled .cwake u = true := by
  refine ⟨_, execAll_cons rfl (ticks_run 1000 _ rfl), ?_⟩
  decide

theorem witness_AgentsAlwaysComeToRest : base.setupOk = true ∧ RangesInv base := by decide

theorem witness_SecondWaiterIsRefused :
    base.setupOk = true ∧ AgentId.counter ≠ .toneSelector ∧
    ({ base with queue := [.asked (.agent .counter) (encodeWord .waitt)] } : State).nextRequest =
      .asked (.agent .counter) (encodeWord .waitt) := by decide

theorem witness_WrongContextIsRefused :
    decodeWord (fetchWord .display base) = .ok .dblk ∧
    mayExecute (.agent .display) (.enc 3) = true ∧
    ({ base with queue := [.asked .handler (encodeWord .waitt)] } : State).nextRequest =
      .asked .handler (encodeWord .waitt) ∧ mayExecute .handler .waitt = false := by decide

theorem witness_OnlyWritersChangeARegister :
    (∃ t, exec .cinc base = .next t) ∧ Instr.cinc ≠ .rst ∧ Instr.cinc ∉ Reg.writers .tidx :=
  ⟨⟨_, rfl⟩, by decide, by decide⟩

/-- Two states that differ in `TIDX` alone, and an operation that does not read it. -/
theorem witness_OnlyReadersDependOnARegister :
    Instr.cinc ≠ .rst ∧ Instr.cinc ∉ Reg.readers .tidx ∧
    (Instr.cinc = .tick → base.params.maxProg = false) ∧ AgreeBut .tidx base { base with tidx := 3 } ∧ (∃ t, exec .cinc base = .next t) ∧
    ∃ t, exec .cinc { base with tidx := 3 } = .next t := by
  refine ⟨by decide, by decide, fun _ => rfl, ⟨?_, rfl, rfl, rfl, rfl, rfl, rfl, rfl⟩, ⟨_, rfl⟩,
    ⟨_, rfl⟩⟩
  intro q hq
  cases q <;> first | exact absurd rfl hq | rfl

/-- Two states that differ in the other pipeline alone, for each pipeline. -/
theorem witness_PipelinesShareNoState :
    (Instr.tadv ∈ toneOps ∧ SameTone base { base with cnt := 9 } ∧
      SameTime base { base with cnt := 9 } ∧ (∃ t, exec .tadv base = .next t) ∧
      ∃ t, exec .tadv { base with cnt := 9 } = .next t) ∧
    (Instr.cinc ∈ displayOps ∧ SameDisplay base { base with tidx := 3 } ∧
      SameTime base { base with tidx := 3 } ∧ (∃ t, exec .cinc base = .next t) ∧
      ∃ t, exec .cinc { base with tidx := 3 } = .next t) := by
  refine ⟨⟨by decide, ?_, ⟨rfl, rfl⟩, ⟨_, rfl⟩, ⟨_, rfl⟩⟩,
    ⟨by decide, ?_, ⟨rfl, rfl⟩, ⟨_, rfl⟩, ⟨_, rfl⟩⟩⟩
  · exact ⟨rfl, rfl, rfl, rfl, rfl, rfl, rfl, rfl, rfl, rfl⟩
  · exact ⟨rfl, rfl, rfl, rfl, rfl, rfl, rfl, rfl, rfl⟩

theorem witness_StepsOfThePipelinesCommute :
    Instr.btn false ∈ toneOps ∧ Instr.dld .tens ∈ displayOps := by decide

theorem witness_TablesAreImmutable : ∃ t, step { base with queue := [.move .tick] } = .next t :=
  ⟨_, step_stepped _ _ rfl⟩

theorem witness_BuzzerPortsAreGuarded :
    base.setupOk = true ∧ RangesInv base ∧ base.buzv = false ∧
    (State.setupOk { base with dgt := 10 } = true ∧ ¬ RangesInv { base with dgt := 10 }) ∧
    State.setupOk { base with setupOk := false } = false ∧ (∃ t, exec .cinc base = .next t) ∧ Instr.cinc ≠ .tdrv ∧ Instr.cinc ≠ .rst :=
  ⟨rfl, by decide, rfl, ⟨rfl, by decide⟩, rfl, ⟨_, rfl⟩, by decide, by decide⟩

theorem witness_PinsCarryThePolarity : base.setupOk = true ∧ RangesInv base := by decide

theorem witness_StrobeFiresOncePerTdrv : (∃ t, exec .tdrv base = .next t) ∧ Instr.tdrv ≠ .rst :=
  ⟨⟨_, rfl⟩, by decide⟩

/-- A state that breaks a range, with a move to make. -/
def badDigit : State := { base with dgt := 10, queue := [.move .tick] }

/-- The base state meets every invariant, and a move of agent `C` is next. -/
theorem witness_RangesAreKept :
    RangesInv base ∧ (∃ t, step { base with queue := [.move (.agent .counter)] } = .next t) ∧
    (∃ t, exec .cinc base = .next t) ∧
    badDigit.setupOk = true ∧ decodeWord badDigit.fetched.2 = .ok .tick ∧
    mayExecute badDigit.fetched.1 .tick = true ∧ ¬ RangesInv badDigit :=
  ⟨by decide, ⟨_, step_stepped _ _ rfl⟩, ⟨_, rfl⟩, rfl, by decide, by decide, by decide⟩

theorem witness_CounterMatchesItsTrace :
    CountInv base ∧ ∃ t, step { base with queue := [.move (.agent .counter)] } = .next t :=
  ⟨rfl, _, step_stepped _ _ rfl⟩

/-- A taken signal that `TADV` has not counted yet: the clause of `ToneInv` with the exception. -/
theorem witness_ToneFollowsTheTakenSignals :
    State.onlyMoves { base with
      queue := [.move (.agent .toneSelector)], pcT := 2, got := true, trace := [.take] } ∧
    ToneInv { base with
      queue := [.move (.agent .toneSelector)], pcT := 2, got := true, trace := [.take] } ∧
    ∃ t, step { base with
      queue := [.move (.agent .toneSelector)], pcT := 2, got := true, trace := [.take] } =
        .next t := by
  refine ⟨onlyMoves_single _ _ rfl, ?_, _, step_stepped _ _ rfl⟩
  simp [ToneInv, base, State.resetWith, takeCount, Event.isTake]

/-- A lit tens digit over its own pattern, in the middle of a frame. -/
def litTens : State :=
  { base with
    queue := [.move (.agent .display)], pcD := 3, dig := .tens, val := 42, dgt := 4, seg := 0x66
    trace := [.digSet .blank, .segSet 0x66, .digSet .tens] }

theorem witness_BlankingIsKept :
    litTens.onlyMoves ∧ BlankingInv litTens ∧ ∃ t, step litTens = .next t := by
  refine ⟨onlyMoves_single _ _ rfl, ?_, _, step_stepped _ _ rfl⟩
  refine ⟨?_, ?_, ?_, ?_, ?_, ?_, ?_⟩ <;> decide

theorem witness_IncrementsAreNeverEarly :
    State.onlyMoves { base with queue := [.move (.agent .counter)] } ∧
    CounterPaceInv { base with queue := [.move (.agent .counter)] } ∧
    State.nextOp { base with queue := [.move (.agent .counter)] } = some .cinc ∧
    ∃ t, step { base with queue := [.move (.agent .counter)] } = .next t := by
  refine ⟨onlyMoves_single _ _ rfl, ⟨?_, ?_, ?_⟩, by decide, _, step_stepped _ _ rfl⟩ <;> decide

theorem witness_IncrementsAreExactUnderMaxprog :
    State.onlyMoves { basePaced with queue := [.move (.agent .counter)] } ∧
    basePaced.params.maxProg = true ∧
    CounterExactInv { basePaced with queue := [.move (.agent .counter)] } ∧
    State.nextOp { basePaced with queue := [.move (.agent .counter)] } = some .cinc ∧
    ∃ t, step { basePaced with queue := [.move (.agent .counter)] } = .next t := by
  refine ⟨onlyMoves_single _ _ rfl, rfl, ⟨?_, ?_, ?_⟩, by decide, _, step_stepped _ _ rfl⟩ <;>
    decide

/-- `TDRV` is next, as late as it can be: 17 ticks after the last one (95_test_vectors.md P2). -/
def lateDrive : State :=
  { basePaced with queue := [.move (.agent .toneSelector)], pcT := 3, now := 17 }

theorem witness_BuzzerIsRedrivenInTime :
    lateDrive.onlyMoves ∧ lateDrive.params.maxProg = true ∧ RedriveInv 0 lateDrive ∧
    lateDrive.nextOp = some .tdrv ∧ ∃ t, step lateDrive = .next t := by
  refine ⟨onlyMoves_single _ _ rfl, rfl, ⟨?_, ?_, ?_, ?_, ?_⟩, by decide, _, step_stepped _ _ rfl⟩ <;>
    decide

/-- The first `DBLK` of a frame is next, two ticks after the last one. -/
def frameEnd : State := { basePaced with queue := [.move (.agent .display)], now := 2 }

theorem witness_FramesTakeTwoTicks :
    frameEnd.onlyMoves ∧ frameEnd.params.maxProg = true ∧ FrameInv 0 frameEnd ∧
    frameEnd.pcD = 0 ∧ frameEnd.nextOp = some .dblk ∧ ∃ t, step frameEnd = .next t := by
  refine ⟨onlyMoves_single _ _ rfl, rfl, ⟨?_, ?_, ?_, ?_, ?_⟩, rfl, by decide, _,
    step_stepped _ _ rfl⟩ <;> decide

/-- The hypotheses on one move: the first `DBLK` of a frame, in a state that need meet no bound. -/
theorem witness_FramesTakeTwoTicks_start :
    State.pcD { base with queue := [.move (.agent .display)] } = 0 ∧
    State.nextOp { base with queue := [.move (.agent .display)] } = some .dblk ∧
    ∃ t, step { base with queue := [.move (.agent .display)] } = .next t :=
  ⟨rfl, by decide, _, step_stepped _ _ rfl⟩

/-! ### A run that meets the premises of R137 for agent `C` -/

/-- A schedule that advances time and lets agent `C` go, in turn. -/
def turn (n : Nat) : Move := if n % 2 = 0 then .tick else .agent .counter

/-- The run of that schedule from the base state. -/
def turnRun : Nat → State
  | 0 => base
  | n + 1 => after (moveOp (turnRun n) (turn n)) { turnRun n with queue := [] }

/-- What the run leaves as it was. -/
def Quiet (s : State) : Prop :=
  s.setupOk = true ∧ s.params.maxProg = false ∧ s.dgt = 0 ∧ s.seg = 0 ∧ s.buzv = false

theorem turnRun_quiet (n : Nat) : Quiet (turnRun n) := by
  induction n with
  | zero => exact ⟨rfl, rfl, rfl, rfl, rfl⟩
  | succ n ih =>
    rw [turnRun]
    unfold turn
    split
    · simp only [moveOp, after, exec, execTick]
      split <;> exact ih
    · simp only [moveOp, opAt, opC]
      split
      · exact ih
      · exact ih
      · simp only [after, exec, execCwake]
        split <;> exact ih

theorem witness_every_phase_recurs :
    IsRun turnRun turn ∧ WeaklyFair .counter turnRun turn ∧ TimeProgresses turnRun turn ∧
      0 < programLength .counter := by
  refine ⟨fun n => ?_, fun n _ => ⟨2 * n + 1, by omega, by simp [turn, Nat.add_mod]⟩,
    fun n => ⟨2 * n, by omega, by simp [turn], ?_⟩, by decide⟩
  · obtain ⟨h1, -, h3, h4, h5⟩ := turnRun_quiet n
    have hr : RangesInv { turnRun n with queue := [.move (turn n)] } :=
      ⟨by simp [h3], by simp [h5], .inl h4⟩
    rw [step_of_move (s := { turnRun n with queue := [.move (turn n)] }) (m := turn n) h1 hr rfl,
      turnRun, ← exec_after]
    cases turn n with
    | agent a => cases a <;> rfl
    | btn b => rfl
    | tick => rfl
  · have hm : (turnRun (2 * n)).params.maxProg = false := (turnRun_quiet (2 * n)).2.1
    simp [enabled, State.tickEnabled, hm]

end Sys2Proof.Tests
end

/-! PROOFS. The two pipelines share no state (spec/00_scope.md R3): what an operation of one
pipeline leaves of the other, and that what it leaves of its own is fixed by its own registers and
time. -/

namespace Sys2Proof.Machine

/-! ### The operations of a pipeline, one case each -/

/-- Case analysis over the pipeline from the button to the buzzer. -/
theorem toneOps_cases {motive : ∀ i, i ∈ toneOps → Prop}
    (btn : ∀ b h, motive (.btn b) h) (sig : ∀ h, motive .sig h) (wait : ∀ h, motive .wait h)
    (waitt : ∀ h, motive .waitt h) (tarm : ∀ h, motive .tarm h) (tadv : ∀ h, motive .tadv h)
    (tdrv : ∀ h, motive .tdrv h) (tslp : ∀ h, motive .tslp h) (twake : ∀ h, motive .twake h)
    (i : Instr) (hi : i ∈ toneOps) : motive i hi := by
  cases i with
  | btn b => exact btn b hi
  | sig => exact sig hi
  | wait => exact wait hi
  | waitt => exact waitt hi
  | tarm => exact tarm hi
  | tadv => exact tadv hi
  | tdrv => exact tdrv hi
  | tslp => exact tslp hi
  | twake => exact twake hi
  | _ => simp [toneOps] at hi

/-- Case analysis over the pipeline from the counter to the display. -/
theorem displayOps_cases {motive : ∀ i, i ∈ displayOps → Prop}
    (cinc : ∀ h, motive .cinc h) (cslp : ∀ h, motive .cslp h) (cwake : ∀ h, motive .cwake h)
    (dblk : ∀ h, motive .dblk h) (dld : ∀ p h, motive (.dld p) h)
    (den : ∀ p h, motive (.den p) h) (dhld : ∀ h, motive .dhld h)
    (dwake : ∀ h, motive .dwake h)
    (i : Instr) (hi : i ∈ displayOps) : motive i hi := by
  cases i with
  | cinc => exact cinc hi
  | cslp => exact cslp hi
  | cwake => exact cwake hi
  | dblk => exact dblk hi
  | dld p => exact dld p hi
  | den p => exact den p hi
  | dhld => exact dhld hi
  | dwake => exact dwake hi
  | _ => simp [displayOps] at hi

/-! ### What an operation leaves of the other pipeline -/

theorem SameTone.refl (s : State) : SameTone s s :=
  ⟨rfl, rfl, rfl, rfl, rfl, rfl, rfl, rfl, rfl, rfl⟩

theorem SameDisplay.refl (s : State) : SameDisplay s s :=
  ⟨rfl, rfl, rfl, rfl, rfl, rfl, rfl, rfl, rfl⟩

/-- No register of the display pipeline is among those that a tone operation updates. -/
theorem sameDisplay_of_mem_toneOps {i : Instr} {s t : State} (hi : i ∈ toneOps)
    (ht : exec i s = .next t) : SameDisplay s t := by
  have keep := SameDisplay.refl s
  induction i, hi using toneOps_cases <;> obtain rfl := Host.Outcome.next.inj ht
  case btn b _ => cases fallingEdge s.btnq b <;> exact keep
  case wait => cases s.pend <;> exact keep
  case waitt => cases s.pend <;> cases s.dueT <;> exact keep
  case tadv => cases s.got <;> exact keep
  case twake => cases s.dueT <;> exact keep
  case sig | tarm | tdrv | tslp => exact keep

/-- No register of the tone pipeline is among those that a display operation updates. -/
theorem sameTone_of_mem_displayOps {i : Instr} {s t : State} (hi : i ∈ displayOps)
    (ht : exec i s = .next t) : SameTone s t := by
  have keep := SameTone.refl s
  induction i, hi using displayOps_cases <;> obtain rfl := Host.Outcome.next.inj ht
  case cwake => cases s.dueC <;> exact keep
  case dwake => cases s.dueD <;> exact keep
  case cinc | cslp | dblk | dld | den | dhld => exact keep

/-! ### What an operation leaves of its own pipeline

Each operation is a composition of state operations, with conditions on its own registers and time:
every state operation keeps two states in agreement, and so does a choice by the same condition. -/

theorem rel_ite {r : State → State → Prop} {b b' : Bool} {s s' t t' : State} (hb : b' = b)
    (hs : r s s') (ht : r t t') : r (if b then s else t) (if b' then s' else t') := by
  subst hb
  cases b'
  · exact ht
  · exact hs

section Tone

variable {s s' : State} (h : SameTone s s')
include h

theorem SameTone.tidx_eq : s'.tidx = s.tidx := by
  obtain ⟨htidx, -⟩ := h
  exact htidx

theorem SameTone.pend_eq : s'.pend = s.pend := by
  obtain ⟨-, hpend, -⟩ := h
  exact hpend

theorem SameTone.got_eq : s'.got = s.got := by
  obtain ⟨-, -, hgot, -⟩ := h
  exact hgot

theorem SameTone.btnq_eq : s'.btnq = s.btnq := by
  obtain ⟨-, -, -, hbtnq, -⟩ := h
  exact hbtnq

theorem SameTone.dueT_eq (ht : s'.now = s.now) : s'.dueT = s.dueT := by
  obtain ⟨-, -, -, -, -, -, -, -, htmrT, -⟩ := h
  simp [State.dueT, htmrT, ht]

theorem SameTone.nextT : SameTone s.nextT s'.nextT := by simp_all [SameTone]

theorem SameTone.signal : SameTone s.signal s'.signal := by simp_all [SameTone]

theorem SameTone.takeSignal : SameTone s.takeSignal s'.takeSignal := by simp_all [SameTone]

theorem SameTone.timeOut : SameTone s.timeOut s'.timeOut := by simp_all [SameTone]

theorem SameTone.setLevel (b : Bool) :
    SameTone { s with btnq := b, btn := b } { s' with btnq := b, btn := b } := by
  simp_all [SameTone]

theorem SameTone.setTidx {k k' : Fin 6} (hk : k' = k) :
    SameTone { s with tidx := k } { s' with tidx := k' } := by simp_all [SameTone]

theorem SameTone.armT {n n' : Nat} (ht : s'.now = s.now) (hn : n' = n) :
    SameTone (s.armT n) (s'.armT n') := by simp_all [SameTone]

theorem SameTone.presentTone {f f' : Hertz} {d d' : Nat} (hf : f' = f) (hd : d' = d) :
    SameTone (s.presentTone f d) (s'.presentTone f' d') := by simp_all [SameTone]

/-- The registers of the tone pipeline and time fix what a tone operation leaves of them. -/
theorem SameTone.exec_congr {i : Instr} {t t' : State} (hi : i ∈ toneOps) (hs : SameTime s s')
    (ht : exec i s = .next t) (ht' : exec i s' = .next t') : SameTone t t' := by
  obtain ⟨hnow, hparams⟩ := hs
  have hdue := h.dueT_eq hnow
  induction i, hi using toneOps_cases <;> obtain rfl := Host.Outcome.next.inj ht <;>
    obtain rfl := Host.Outcome.next.inj ht'
  case btn b _ => exact (rel_ite (congrArg (fallingEdge · b) h.btnq_eq) h.signal h).setLevel b
  case sig => exact h.signal
  case wait => exact rel_ite h.pend_eq h.takeSignal.nextT h
  case waitt => exact rel_ite h.pend_eq h.takeSignal.nextT (rel_ite hdue h.timeOut.nextT h)
  case tarm => exact (h.armT hnow (congrArg (·.tPoll.ticks) hparams)).nextT
  case tadv => exact (rel_ite h.got_eq (h.setTidx (congrArg cycle h.tidx_eq)) h).nextT
  case tdrv =>
    exact (h.presentTone (congrArg toneAt h.tidx_eq) (congrArg (·.duty) hparams)).nextT
  case tslp => exact (h.armT hnow (congrArg (·.tTSleep) hparams)).nextT
  case twake => exact rel_ite hdue h.nextT h

end Tone

section Display

variable {s s' : State} (h : SameDisplay s s')
include h

theorem SameDisplay.cnt_eq : s'.cnt = s.cnt := by
  obtain ⟨hcnt, -⟩ := h
  exact hcnt

theorem SameDisplay.val_eq : s'.val = s.val := by
  obtain ⟨-, hval, -⟩ := h
  exact hval

theorem SameDisplay.dueC_eq (ht : s'.now = s.now) : s'.dueC = s.dueC := by
  obtain ⟨-, -, -, -, -, htmrC, -⟩ := h
  simp [State.dueC, htmrC, ht]

theorem SameDisplay.dueD_eq (ht : s'.now = s.now) : s'.dueD = s.dueD := by
  obtain ⟨-, -, -, -, -, -, htmrD, -⟩ := h
  simp [State.dueD, htmrD, ht]

theorem SameDisplay.nextC : SameDisplay s.nextC s'.nextC := by simp_all [SameDisplay]

theorem SameDisplay.nextD : SameDisplay s.nextD s'.nextD := by simp_all [SameDisplay]

theorem SameDisplay.armC (ht : s'.now = s.now) (n : Nat) :
    SameDisplay (s.armC n) (s'.armC n) := by simp_all [SameDisplay]

theorem SameDisplay.armD (ht : s'.now = s.now) (n : Nat) :
    SameDisplay (s.armD n) (s'.armD n) := by simp_all [SameDisplay]

theorem SameDisplay.setCount {v v' : Fin 100} (hv : v' = v) :
    SameDisplay (s.setCount v) (s'.setCount v') := by simp_all [SameDisplay]

theorem SameDisplay.setSelect (d : DigSel) : SameDisplay (s.setSelect d) (s'.setSelect d) := by
  simp_all [SameDisplay]

theorem SameDisplay.readCounter (hp : s'.params = s.params) (p : Position) :
    SameDisplay (s.readCounter p) (s'.readCounter p) := by
  cases p <;> simp_all [SameDisplay]

theorem SameDisplay.showDigit {d d' : DigitCode} (hp : s'.params = s.params) (hd : d' = d) :
    SameDisplay (s.showDigit d) (s'.showDigit d') := by simp_all [SameDisplay]

/-- The registers of the display pipeline and time fix what a display operation leaves of them. -/
theorem SameDisplay.exec_congr {i : Instr} {t t' : State} (hi : i ∈ displayOps)
    (hs : SameTime s s') (ht : exec i s = .next t) (ht' : exec i s' = .next t') : SameDisplay t t' := by
  obtain ⟨hnow, hparams⟩ := hs
  induction i, hi using displayOps_cases <;> obtain rfl := Host.Outcome.next.inj ht <;>
    obtain rfl := Host.Outcome.next.inj ht'
  case cinc => exact (h.setCount (congrArg cycle h.cnt_eq)).nextC
  case cslp => exact (h.armC hnow tCnt).nextC
  case cwake => exact rel_ite (h.dueC_eq hnow) h.nextC h
  case dblk => exact (h.setSelect .blank).nextD
  case dld p _ =>
    have hread := h.readCounter hparams p
    exact (hread.showDigit hparams (congrArg (digitOf p) hread.val_eq)).nextD
  case den p _ => exact (h.setSelect (selectOf p)).nextD
  case dhld => exact (h.armD hnow tHold).nextD
  case dwake => exact rel_ite (h.dueD_eq hnow) h.nextD h

end Display

/-- Settles O46: an operation of one pipeline writes no register of the other, and what it writes of
its own is fixed by its own pipeline and time. -/
theorem pipelinesShareNoState : Obligations.PipelinesShareNoState :=
  ⟨fun _ _ _ => sameDisplay_of_mem_toneOps, fun _ _ _ => sameTone_of_mem_displayOps,
    fun _ _ _ _ _ hi h => h.exec_congr hi, fun _ _ _ _ _ hi h => h.exec_congr hi⟩

end Sys2Proof.Machine

/-! PROOFS. The phase counters and reset (spec/10_state.md R27, R36, R37): an operation that
completes advances its own agent's counter by one, nothing else but reset moves one, and from reset
every agent can go first. -/

namespace Sys2Proof.Machine

/-! ### What an operation answers -/

/-- No operation of the block fails (R117, R145). -/
theorem exec_answers (i : Instr) (s : State) : ∃ t, exec i s = .next t := by
  cases i <;> exact ⟨_, rfl⟩

/-- A held operation changes nothing (R11, R136; log 4). -/
theorem exec_of_held {i : Instr} {s : State} (h : enabled i s = false) : exec i s = .next s := by
  have held {b : Bool} (u : State) (hb : b = false) :
      (.next (if b then u else s) : Host.Outcome State Fault Refusal) = .next s := by simp [hb]
  cases i with
  | wait | twake | cwake | dwake | tick => exact held _ h
  | waitt =>
    obtain ⟨hpend, hdue⟩ := Bool.or_eq_false_iff.mp h
    simp [exec, execWaitt, hpend, hdue]
  | _ => cases h

/-! ### The phase counters -/

theorem phase_nextT (s : State) :
    s.nextT.phase .toneSelector = (s.phase .toneSelector + 1) % programLength .toneSelector := rfl

theorem phase_nextC (s : State) :
    s.nextC.phase .counter = (s.phase .counter + 1) % programLength .counter := rfl

theorem phase_nextD (s : State) :
    s.nextD.phase .display = (s.phase .display + 1) % programLength .display := rfl

theorem phase_ite_of_true {a : AgentId} {b : Bool} {s u : State} (hb : b = true) :
    (if b then u else s).phase a = u.phase a := by simp [hb]

/-- A completed operation advances its agent's phase counter, wherever the counter stands. -/
theorem phase_of_completed {a : AgentId} {i : Instr} {s t : State} (hi : contextFor i = .agent a)
    (he : enabled i s = true) (h : exec i s = .next t) :
    t.phase a = (s.phase a + 1) % programLength a := by
  cases i <;> cases hi <;> obtain rfl := Host.Outcome.next.inj h
  case wait => exact (phase_ite_of_true he).trans (phase_nextT _)
  case waitt =>
    cases hpend : s.pend
    · have hdue : s.dueT = true := by simpa [enabled, programOpEnabled, hpend] using he
      exact (phase_ite_of_true hdue).trans (phase_nextT s.timeOut)
    · exact phase_nextT _
  case tadv => cases s.got <;> exact phase_nextT _
  case tarm | tdrv | tslp => exact phase_nextT _
  case twake => exact (phase_ite_of_true he).trans (phase_nextT _)
  case cinc | cslp => exact phase_nextC _
  case cwake => exact (phase_ite_of_true he).trans (phase_nextC _)
  case dblk | dld | den | dhld => exact phase_nextD _
  case dwake => exact (phase_ite_of_true he).trans (phase_nextD _)

/-- What an operation other than `RST` does to a phase counter (R27). -/
theorem phase_exec {a : AgentId} {i : Instr} {s t : State} (h : exec i s = .next t)
    (hr : i ≠ .rst) :
    t.phase a =
      if contextFor i = .agent a ∧ enabled i s = true then (s.phase a + 1) % programLength a
      else s.phase a := by
  split
  next hc =>
    obtain ⟨hi, he⟩ := hc
    exact phase_of_completed hi he h
  next hc =>
    by_cases hi : contextFor i = .agent a
    · have held : enabled i s = false := Bool.eq_false_iff.mpr fun he => hc ⟨hi, he⟩
      rw [Host.Outcome.next.inj (h.symm.trans (exec_of_held held))]
    · obtain ⟨hphase, -⟩ := exec_keeps_agent hi hr h
      exact hphase

theorem phase_rst {s t : State} (h : exec .rst s = .next t) (a : AgentId) : t.phase a = 0 := by
  obtain rfl := Host.Outcome.next.inj h
  cases a <;> rfl

theorem fetched_of_agentMove {s : State} {a : AgentId} {rest : List Request}
    (hq : s.queue = .move (.agent a) :: rest) : s.fetched = (.agent a, fetchWord a s) := by
  simp [State.fetched, State.nextRequest, hq, requested]

/-- Settles O7: the agent executes the word at its phase counter, its completed operations advance
the counter, and nothing else but reset moves it. -/
theorem phaseCountersOnlyAdvance : Obligations.PhaseCountersOnlyAdvance :=
  ⟨fun _ _ _ => fetched_of_agentMove, fun _ _ _ _ => phase_exec, fun _ _ a h => phase_rst h a⟩

/-! ### Reset -/

/-- Settles O10: the values of R36's table are those of `State.resetWith`. -/
theorem resetStateValues : Obligations.ResetStateValues := by
  simp [Obligations.ResetStateValues, State.reset, DigSel.bits]

theorem rangesInv_reset : RangesInv State.reset := by simp [RangesInv, State.reset]

theorem phase_reset (a : AgentId) : State.reset.phase a = 0 := by cases a <;> rfl

/-- Every deadline is 0 at reset, so no agent is held. -/
theorem agentEnabled_reset (a : AgentId) : agentEnabled a State.reset = true :=
  agentEnabled_of_due (by cases a <;> exact le_rfl)

/-- A first move of an agent executes the operation at its phase counter, on the reset state. -/
theorem step_reset_agent (a : AgentId) :
    step { State.reset with queue := [.move (.agent a)] } = exec (opAt a State.reset) State.reset :=
  step_of_move (m := .agent a) rfl rangesInv_reset rfl

/-- A first move of an agent gives a next state, in which the agent has advanced. -/
theorem step_reset_advances (a : AgentId) :
    ∃ t, step { State.reset with queue := [.move (.agent a)] } = .next t ∧ t.phase a = 1 := by
  obtain ⟨t, ht⟩ := exec_answers (opAt a State.reset) State.reset
  obtain ⟨advances, -⟩ := exec_own ht
  refine ⟨t, (step_reset_agent a).trans ht, ?_⟩
  rw [advances (agentEnabled_reset a), phase_reset]
  cases a <;> rfl

/-- Settles O13: at reset the agents stand at `TARM`, `CINC` and `DBLK`, none is held, and any of
them may go first. -/
theorem agentsStartAtTheirFirstOperation : Obligations.AgentsStartAtTheirFirstOperation :=
  ⟨decode_fetchWord .toneSelector _, decode_fetchWord .counter _, decode_fetchWord .display _,
    agentEnabled_reset, step_reset_advances⟩

end Sys2Proof.Machine

/-! PROOFS. The opcode map (spec/30_encoding.md R64, R65, R70) and the pins (R55): the decoder and
the encoder are inverse on the words of the map, the other words are the unassigned ranges, and a
port's pins carry its value under the polarity. -/

namespace Sys2Proof.Machine

/-! ### The words of the operations -/

/-- No bit of an operation is dropped by its word. -/
theorem decodeWord_encodeWord (i : Instr) : decodeWord (encodeWord i) = .ok i := by
  cases i with
  | enc d => revert d; decide
  | btn b => cases b <;> rfl
  | dld p | den p => cases p <;> rfl
  | _ => rfl

theorem not_unassigned_encodeWord (i : Instr) : ¬ unassigned (encodeWord i) := by
  unfold unassigned
  cases i with
  | enc d => simp only [encodeWord, BitVec.toNat_ofNat]; omega
  | btn b => cases b <;> decide
  | dld p | den p => cases p <;> decide
  | _ => decide

/-- A word is its unit over its function (R59). -/
theorem toNat_eq_unit_funct (w : Word) :
    w.toNat = 16 * (Word.unit w).toNat + (Word.funct w).toNat := by
  simp only [Word.unit, Word.funct, BitVec.extractLsb'_toNat]
  omega

/-! ### The decoder's answers -/

/-- An answer to a word that agrees with the map: an operation whose word it is, or "invalid" for
a word of the unassigned ranges (R64, R65). -/
def AnswersFor (w : Word) : Except DecodeReject Instr → Prop
  | .ok i => encodeWord i = w
  | .error r => r = .invalid w ∧ unassigned w

theorem answersFor_ok {w : Word} {u f : BitVec 4} {i : Instr} (hu : Word.unit w = u)
    (hf : Word.funct w = f) (hi : (encodeWord i).toNat = 16 * u.toNat + f.toNat) :
    AnswersFor w (.ok i) :=
  BitVec.eq_of_toNat_eq (by rw [hi, toNat_eq_unit_funct, hu, hf])

/-- What the decoder can answer. The unit picks a table: the digits of unit 0 are all operations,
units 1 to 5 and 15 hold the operations that their functions pick, and what is left, with the other
units, lies in the unassigned ranges. -/
theorem answersFor_decodeWord (w : Word) : AnswersFor w (decodeWord w) := by
  have hw := toNat_eq_unit_funct w
  unfold decodeWord decodeChannel decodeTone decodeCounter decodeDisplay decodeTime decodeReset
  split
  case h_1 hu =>
    refine answersFor_ok hu rfl ?_
    simp only [encodeWord, Word.digit, BitVec.toNat_ofNat]
    omega
  case' h_2 hu | h_3 hu | h_4 hu | h_5 hu | h_6 hu | h_7 hu =>
    split
    any_goals exact answersFor_ok hu ‹_› rfl
  all_goals
    refine ⟨rfl, ?_⟩
    simp only [unassigned, imp_false, BitVec.toNat_eq, BitVec.toNat_ofNat] at *
    omega

theorem decodeWord_eq_ok_iff {w : Word} {i : Instr} : decodeWord w = .ok i ↔ encodeWord i = w := by
  constructor
  · intro h
    have answer := answersFor_decodeWord w
    rwa [h] at answer
  · rintro rfl
    exact decodeWord_encodeWord i

/-- The unassigned words are those the decoder calls invalid (R65). -/
theorem unassigned_iff_decodeWord (w : Word) :
    unassigned w ↔ decodeWord w = .error (.invalid w) := by
  have answer := answersFor_decodeWord w
  cases h : decodeWord w with
  | ok i =>
    obtain rfl := decodeWord_eq_ok_iff.mp h
    simp [not_unassigned_encodeWord]
  | error r =>
    rw [h] at answer
    obtain ⟨rfl, hu⟩ := answer
    exact iff_of_true hu rfl

theorem encodeWord_ne_iff_unassigned (w : Word) : (∀ i, encodeWord i ≠ w) ↔ unassigned w := by
  constructor
  · intro h
    have answer := answersFor_decodeWord w
    cases hw : decodeWord w with
    | ok i => exact absurd (decodeWord_eq_ok_iff.mp hw) (h i)
    | error r =>
      rw [hw] at answer
      obtain ⟨-, hu⟩ := answer
      exact hu
  · rintro hu i rfl
    exact not_unassigned_encodeWord i hu

/-- Settles O2: the decoder answers an operation for its word alone, and "invalid" for a word of no
operation. -/
theorem decoderIsTotalAndExact : Obligations.DecoderIsTotalAndExact :=
  ⟨fun _ _ => decodeWord_eq_ok_iff,
    fun w => (encodeWord_ne_iff_unassigned w).trans (unassigned_iff_decodeWord w),
    decodeWord_encodeWord (.btn false), decodeWord_encodeWord (.btn true),
    decodeWord_encodeWord (.dld .tens), decodeWord_encodeWord (.dld .units),
    decodeWord_encodeWord (.den .tens), decodeWord_encodeWord (.den .units),
    fun d => decodeWord_encodeWord (.enc d), rfl⟩

/-! ### Refusing a word outside the map -/

/-- An agent's word is its operation's (R66), so no program holds an unassigned one. -/
theorem not_unassigned_fetchWord (a : AgentId) (s : State) : ¬ unassigned (fetchWord a s) := by
  rw [← decodeWord_eq_ok_iff.mp (decode_fetchWord a s)]
  exact not_unassigned_encodeWord _

/-- A word outside the map is refused, whatever else holds of the state (R65). -/
theorem step_of_unassigned {s : State} (hs : s.setupOk = true) (hu : unassigned s.fetched.2) :
    step s = .refused (.badOp s.fetched.2) := by
  rw [step, if_pos hs, (unassigned_iff_decodeWord _).mp hu]

theorem fetched_of_asked {s : State} {c : Context} {w : Word} (h : s.nextRequest = .asked c w) :
    s.fetched = (c, w) := by
  rw [State.fetched, h, requested]

/-- Settles O3: the unassigned ranges are what the map leaves, no program stands in them, and the
decoder's "invalid" is `X_BADOP` before context and ranges are looked at. -/
theorem unassignedWordsAreRefused : Obligations.UnassignedWordsAreRefused := by
  refine ⟨unassigned_iff_decodeWord, not_unassigned_fetchWord, fun s c w hs hq hu => ?_⟩
  have hw := fetched_of_asked hq
  have refused := step_of_unassigned hs (by rwa [hw])
  rwa [hw] at refused

/-! ### Pins under a polarity -/

/-- A pattern exclusive-or a polarity inverts each of its bits where the polarity is active low. -/
theorem getLsbD_xor_polarity {n : Nat} (x : BitVec n) (low : Bool) {i : Nat} (hi : i < n) :
    (x ^^^ (if low then BitVec.allOnes n else 0)).getLsbD i = (x.getLsbD i ^^ low) := by
  cases low <;> simp [hi]

/-- Settles O49: after a successful setup and within the ranges the ports show their registers
under the polarities. -/
theorem pinsCarryThePolarity : Obligations.PinsCarryThePolarity := fun s hs hr =>
  ⟨_, _, port_of_ranges hs hr _, port_of_ranges hs hr _,
    fun _ hi => getLsbD_xor_polarity s.seg _ hi, fun _ hj => getLsbD_xor_polarity s.dig.bits _ hj⟩

end Sys2Proof.Machine

/-! PROOFS. The edge detector and the signal channel (spec/41_edge_channel.md R76 to R84): what each
operation does to the channel, and that signals with no wait between them are taken as one. -/

namespace Sys2Proof.Machine

/-! ### Operations of one context, and held operations -/

/-- The context of an operation is the only one, but for `ENC` and `SIG` (R64, R130). -/
theorem onlyIn_contextFor {i : Instr} (henc : ∀ d, i ≠ .enc d) (hsig : i ≠ .sig) :
    OnlyIn (contextFor i) i := by
  intro c
  cases i with
  | enc d => exact absurd rfl (henc d)
  | sig => exact absurd rfl hsig
  | _ => rcases c with ⟨_ | _ | _⟩ | _ | _ <;> simp [mayExecute, contextFor]

theorem held_of_not_enabled {i : Instr} {s : State} (h : enabled i s = false) : Held i s :=
  ⟨h, fun _ ht => Host.Outcome.next.inj (ht.symm.trans (exec_of_held h))⟩

theorem held_wait {s : State} (hp : s.pend = false) : Held .wait s := held_of_not_enabled hp

theorem held_waitt {s : State} (hp : s.pend = false) (hd : s.now < s.tmrT) : Held .waitt s :=
  held_of_not_enabled (Bool.or_eq_false_iff.mpr ⟨hp, (dueT_eq_false s).mpr hd⟩)

/-! ### The operations of the channel, an equation per case -/

theorem fallingEdge_iff {last new : Bool} :
    fallingEdge last new = true ↔ last = true ∧ new = false := by simp [fallingEdge]

theorem exec_btn_of_edge {s : State} {b : Bool} (h : s.btnq = true ∧ b = false) :
    exec (.btn b) s = .next { s.signal with btnq := b, btn := b } := by
  rw [exec, execBtn, if_pos (fallingEdge_iff.mpr h)]; rfl

theorem exec_btn_of_no_edge {s : State} {b : Bool} (h : ¬ (s.btnq = true ∧ b = false)) :
    exec (.btn b) s = .next { s with btnq := b, btn := b } := by
  rw [exec, execBtn, if_neg (mt fallingEdge_iff.mp h)]

theorem exec_wait_of_pend {s : State} (h : s.pend = true) :
    exec .wait s = .next s.takeSignal.nextT := by
  rw [exec, execWait, if_pos h]

/-- A pending signal is taken whether or not the deadline has passed (D16). -/
theorem exec_waitt_of_pend {s : State} (h : s.pend = true) :
    exec .waitt s = .next s.takeSignal.nextT := by
  rw [exec, execWaitt, if_pos h]

theorem exec_waitt_of_due {s : State} (hp : s.pend = false) (hd : s.tmrT ≤ s.now) :
    exec .waitt s = .next s.timeOut.nextT := by
  simp [exec, execWaitt, hp, hd]

/-- Posting again shows in the trace alone (R77). -/
theorem signal_of_pend {s : State} (h : s.pend = true) :
    s.signal = { s with trace := s.trace ++ [.sig] } := by
  rw [State.signal, State.emit, ← h]

/-! ### What an operation does to the channel -/

/-- Whether an operation posts a signal: `SIG`, and a falling edge, which runs it (R76, R77). -/
def postsSignal (i : Instr) (s : State) : Bool :=
  match i with
  | .sig => true
  | .btn b => fallingEdge s.btnq b
  | _ => false

theorem exec_of_posts {i : Instr} {s t : State} (hp : postsSignal i s = true)
    (h : exec i s = .next t) : t.pend = true ∧ t.trace = s.trace ++ [.sig] := by
  cases i with
  | sig =>
    obtain rfl := Host.Outcome.next.inj h
    exact ⟨rfl, rfl⟩
  | btn b =>
    obtain rfl := Host.Outcome.next.inj ((exec_btn_of_edge (fallingEdge_iff.mp hp)).symm.trans h)
    exact ⟨rfl, rfl⟩
  | _ => cases hp

/-- The channel and what the trace shows of it are the same in two states. -/
def ChannelKept (s t : State) : Prop :=
  t.pend = s.pend ∧ sigCount t = sigCount s ∧ takeCount t = takeCount s

theorem ChannelKept.refl (s : State) : ChannelKept s s := ⟨rfl, rfl, rfl⟩

/-- An event that is neither a `Sig` nor a `Take` shows nothing of the channel. -/
theorem channelKept_emit (s : State) {e : Event} (hs : e.isSig = false) (ht : e.isTake = false) :
    ChannelKept s (s.emit e) := by simp [ChannelKept, sigCount, takeCount, hs, ht]

/-- What neither waits nor resets nor posts a signal leaves the channel as it is. -/
theorem channelKept_exec {i : Instr} {s t : State} (hi : i ∉ [Instr.wait, .waitt, .rst])
    (hp : postsSignal i s = false) (h : exec i s = .next t) : ChannelKept s t := by
  have keep := ChannelKept.refl s
  cases i <;> obtain rfl := Host.Outcome.next.inj h
  case wait | waitt | rst => simp at hi
  case sig => cases hp
  case btn b =>
    simp only [show fallingEdge s.btnq b = false from hp]
    exact keep
  case tadv => cases s.got <;> exact keep
  case twake => cases s.dueT <;> exact keep
  case cwake => cases s.dueC <;> exact keep
  case dwake => cases s.dueD <;> exact keep
  case tick => cases s.tickEnabled <;> exact keep
  case enc | tarm | tslp | cslp | dhld => exact keep
  case tdrv => exact channelKept_emit s (e := .buzzSet _ _) rfl rfl
  case cinc => exact channelKept_emit s (e := .inc _) rfl rfl
  case dblk | den => exact channelKept_emit s (e := .digSet _) rfl rfl
  case dld => exact channelKept_emit s (e := .segSet _) rfl rfl

theorem sigCount_of_append_sig {s t : State} (h : t.trace = s.trace ++ [.sig]) :
    sigCount t = sigCount s + 1 := by simp [sigCount, h, Event.isSig]

theorem takeCount_of_append_sig {s t : State} (h : t.trace = s.trace ++ [.sig]) :
    takeCount t = takeCount s := by simp [takeCount, h, Event.isTake]

theorem takeCount_takeSignal (s : State) : takeCount s.takeSignal = takeCount s + 1 := by
  simp [takeCount, Event.isTake]

/-- Only a post fills an empty channel: waits and reset leave it empty too (R78). -/
theorem pend_of_not_posts {i : Instr} {s t : State} (hp : postsSignal i s = false)
    (h : exec i s = .next t) (he : s.pend = false) : t.pend = false := by
  by_cases hi : i ∈ [Instr.wait, .waitt, .rst]
  · simp only [List.mem_cons, List.not_mem_nil, or_false] at hi
    obtain rfl | rfl | rfl := hi
    · rwa [Host.Outcome.next.inj (h.symm.trans (exec_of_held he))]
    · obtain rfl := Host.Outcome.next.inj h
      cases s.dueT <;> simp [he]
    · obtain rfl := Host.Outcome.next.inj h
      rfl
  · obtain ⟨hpend, -⟩ := channelKept_exec hi hp h
    exact hpend.trans he

/-! ### Runs without a wait -/

/-- From one state to another signals may have been posted, but none taken: `PEND` is 1 when it was
before or there was one. -/
def PostsOnly (s t : State) : Prop :=
  sigCount s ≤ sigCount t ∧ takeCount t = takeCount s ∧
    t.pend = (s.pend || decide (sigCount s < sigCount t))

theorem PostsOnly.refl (s : State) : PostsOnly s s := ⟨le_rfl, rfl, by simp⟩

theorem PostsOnly.trans {s t u : State} (h : PostsOnly s t) (h' : PostsOnly t u) :
    PostsOnly s u := by
  obtain ⟨sigs, takes, pend⟩ := h
  obtain ⟨sigs', takes', pend'⟩ := h'
  refine ⟨sigs.trans sigs', takes'.trans takes, ?_⟩
  rw [pend', pend, Bool.or_assoc, ← Bool.decide_or]
  congr 2
  simp only [eq_iff_iff]
  omega

theorem postsOnly_exec {i : Instr} {s t : State} (hi : i ∉ [Instr.wait, .waitt, .rst])
    (h : exec i s = .next t) : PostsOnly s t := by
  cases hp : postsSignal i s
  · obtain ⟨pend, sigs, takes⟩ := channelKept_exec hi hp h
    exact ⟨sigs.ge, takes, by simp [pend, sigs]⟩
  · obtain ⟨pend, trace⟩ := exec_of_posts hp h
    have sigs := sigCount_of_append_sig trace
    exact ⟨by omega, takeCount_of_append_sig trace, by simp [pend, sigs]⟩

theorem execAll_cons {i : Instr} {s t : State} (h : exec i s = .next t) (is : List Instr) :
    execAll (i :: is) s = execAll is t := by rw [execAll, h]

/-- A run of operations fails nowhere, as no operation does (R117). -/
theorem execAll_answers (is : List Instr) (s : State) : ∃ u, execAll is s = .next u := by
  induction is generalizing s with
  | nil => exact ⟨s, rfl⟩
  | cons i is ih =>
    obtain ⟨t, ht⟩ := exec_answers i s
    rw [execAll_cons ht]
    exact ih t

/-- A reflexive and transitive relation that every operation of a run keeps holds across the run. -/
theorem execAll_rel {r : State → State → Prop} (refl : ∀ s, r s s)
    (trans : ∀ {s t u}, r s t → r t u → r s u) {is : List Instr} {s u : State}
    (step : ∀ i ∈ is, ∀ {s t}, exec i s = .next t → r s t) (h : execAll is s = .next u) :
    r s u := by
  induction is generalizing s with
  | nil =>
    obtain rfl := Host.Outcome.next.inj h
    exact refl s
  | cons i is ih =>
    obtain ⟨t, ht⟩ := exec_answers i s
    rw [execAll_cons ht] at h
    exact trans (step i List.mem_cons_self ht) (ih (fun j hj => step j (.tail i hj)) h)

theorem postsOnly_execAll {is : List Instr} {s u : State}
    (hi : ∀ i ∈ is, i ∉ [Instr.wait, .waitt, .rst]) (h : execAll is s = .next u) :
    PostsOnly s u :=
  execAll_rel PostsOnly.refl PostsOnly.trans (fun i hm => postsOnly_exec (hi i hm)) h

/-- A `SIG` anywhere in a run without a reset is counted. -/
theorem sigCount_lt_of_sig_mem {is : List Instr} {s u : State}
    (hi : ∀ i ∈ is, i ∉ [Instr.wait, .waitt, .rst]) (hsig : .sig ∈ is)
    (h : execAll is s = .next u) : sigCount s < sigCount u := by
  induction is generalizing s with
  | nil => cases hsig
  | cons i is ih =>
    obtain ⟨t, ht⟩ := exec_answers i s
    rw [execAll_cons ht] at h
    obtain ⟨hi, his⟩ := List.forall_mem_cons.mp hi
    cases hsig with
    | head =>
      obtain ⟨-, trace⟩ := exec_of_posts rfl ht
      obtain ⟨later, -⟩ := postsOnly_execAll his h
      have := sigCount_of_append_sig trace
      omega
    | tail _ hmem =>
      obtain ⟨first, -⟩ := postsOnly_exec hi ht
      exact first.trans_lt (ih his hmem h)

/-! ### Leaving out signals that find one pending -/

/-- Two states that differ in the trace alone. -/
def SameButTrace (s t : State) : Prop := t = { s with trace := t.trace }

theorem SameButTrace.refl (s : State) : SameButTrace s s := rfl

theorem SameButTrace.nextT {s t : State} (h : SameButTrace s t) : SameButTrace s.nextT t.nextT :=
  congrArg State.nextT h

/-- No operation reads the trace (log 12). -/
theorem SameButTrace.exec_congr {i : Instr} {s s' t t' : State} (h : SameButTrace s s')
    (ht : exec i s = .next t) (ht' : exec i s' = .next t') : SameButTrace t t' := by
  rw [SameButTrace] at h
  generalize s'.trace = tr at h
  subst h
  cases i <;> obtain rfl := Host.Outcome.next.inj ht <;> obtain rfl := Host.Outcome.next.inj ht'
  case btn b => cases fallingEdge s.btnq b <;> rfl
  case tadv => exact SameButTrace.nextT (rel_ite (r := SameButTrace) rfl rfl rfl)
  case wait | twake | cwake | dwake | tick => exact rel_ite (r := SameButTrace) rfl rfl rfl
  case waitt => exact rel_ite (r := SameButTrace) rfl rfl (rel_ite (r := SameButTrace) rfl rfl rfl)
  all_goals rfl

/-- Posting to a channel that is signaled shows in the trace alone (R77). -/
theorem SameButTrace.signal {s s' : State} (h : SameButTrace s s') (hp : s.pend = true) :
    SameButTrace s.signal s' := by
  rw [signal_of_pend hp]
  exact h

/-- With a signal pending, every `SIG` of a run without a wait or a reset may be left out. -/
theorem SameButTrace.execAll_filter_sig {is : List Instr} {s s' u v : State}
    (h : SameButTrace s s') (hp : s.pend = true) (hi : ∀ i ∈ is, i ∉ [Instr.wait, .waitt, .rst])
    (hu : execAll is s = .next u) (hv : execAll (is.filter (· ≠ .sig)) s' = .next v) :
    SameButTrace u v := by
  induction is generalizing s s' with
  | nil =>
    obtain rfl := Host.Outcome.next.inj hu
    obtain rfl := Host.Outcome.next.inj hv
    exact h
  | cons i is ih =>
    obtain ⟨hi, his⟩ := List.forall_mem_cons.mp hi
    by_cases hsig : i = .sig
    · subst hsig
      exact ih (h.signal hp) rfl his hu hv
    · obtain ⟨t, ht⟩ := exec_answers i s
      obtain ⟨t', ht'⟩ := exec_answers i s'
      obtain ⟨-, -, pend⟩ := postsOnly_exec hi ht
      rw [execAll_cons ht] at hu
      rw [List.filter_cons_of_pos (by simpa using hsig), execAll_cons ht'] at hv
      exact ih (h.exec_congr ht ht') (by simp [pend, hp]) his hu hv

/-! ### Falling edges -/

theorem sigCount_exec_btn {b : Bool} {s t : State} (h : exec (.btn b) s = .next t) :
    sigCount t = sigCount s + if s.btnq = true ∧ b = false then 1 else 0 := by
  split
  next edge =>
    obtain ⟨-, trace⟩ := exec_of_posts (i := .btn b) (fallingEdge_iff.mpr edge) h
    exact sigCount_of_append_sig trace
  next level =>
    obtain rfl := Host.Outcome.next.inj ((exec_btn_of_no_edge level).symm.trans h)
    rfl

theorem btnq_exec_btn {b : Bool} {s t : State} (h : exec (.btn b) s = .next t) : t.btnq = b := by
  obtain rfl := Host.Outcome.next.inj h
  rfl

/-- The levels of a list, one after another: each is compared with the one before it (R84). -/
theorem sigCount_btnq_levels {bs : List Bool} {s t : State}
    (h : execAll (bs.map .btn) s = .next t) :
    sigCount t = sigCount s + fallingEdges s.btnq bs ∧
      t.btnq = (s.btnq :: bs).getLast (by simp) := by
  induction bs generalizing s with
  | nil =>
    obtain rfl := Host.Outcome.next.inj h
    exact ⟨rfl, rfl⟩
  | cons b bs ih =>
    obtain ⟨u, hu⟩ := exec_answers (.btn b) s
    rw [List.map_cons, execAll_cons hu] at h
    obtain ⟨sigs, last⟩ := ih h
    rw [btnq_exec_btn hu] at sigs last
    exact ⟨by rw [sigs, sigCount_exec_btn hu, fallingEdges, Nat.add_assoc], last⟩

/-! ### The obligations -/

/-- Settles O20: without a wait or a reset `PEND` remembers that some signal was posted, so one
`WAITT` takes them all; and it remembers no more, so the further ones may be left out. -/
theorem signalsCoalesce : Obligations.SignalsCoalesce := by
  refine ⟨fun is s hi => ?_, fun is s u v hi hu hv => ?_⟩
  · obtain ⟨u, hu⟩ := execAll_answers is s
    obtain ⟨-, takes, pend⟩ := postsOnly_execAll hi hu
    refine ⟨u, hu, fun hsig => sigCount_lt_of_sig_mem hi hsig hu, fun hlt => ?_⟩
    have hpend : u.pend = true := by simp [pend, hlt]
    refine ⟨hpend, _, exec_waitt_of_pend hpend, rfl, rfl, ?_, held_wait rfl, held_waitt rfl⟩
    exact (takeCount_takeSignal u).trans (by rw [takes])
  · exact SameButTrace.execAll_filter_sig (SameButTrace.refl s.signal) rfl hi hu hv

/-- Settles O22: each falling edge of the levels posts one signal, and nothing takes one. -/
theorem eachFallingEdgeSignalsOnce : Obligations.EachFallingEdgeSignalsOnce := by
  intro bs s
  have levels : ∀ i ∈ bs.map Instr.btn, i ∉ [Instr.wait, .waitt, .rst] :=
    List.forall_mem_map.mpr fun b _ => by simp
  obtain ⟨t, ht⟩ := execAll_answers (bs.map .btn) s
  obtain ⟨sigs, last⟩ := sigCount_btnq_levels ht
  obtain ⟨-, -, pend⟩ := postsOnly_execAll levels ht
  exact ⟨t, ht, sigs, by simp [pend, sigs], last⟩

/-- Settles O16: the two cases of `BTN`, an edge and no edge. -/
theorem btnSignalsOnTheFallingEdge : Obligations.BtnSignalsOnTheFallingEdge := by
  refine ⟨decodeWord_encodeWord (.btn false), decodeWord_encodeWord (.btn true), rfl, fun b =>
    ⟨onlyIn_contextFor (i := .btn b) (by simp) (by simp), fun s => ⟨rfl, ?_⟩⟩⟩
  split
  next edge => exact ⟨_, exec_btn_of_edge edge, rfl, ⟨rfl, rfl⟩, rfl⟩
  next level => exact ⟨_, exec_btn_of_no_edge level, rfl, ⟨rfl, rfl⟩, rfl⟩

/-- Settles O17: `SIG` is the producer's access of the channel. -/
theorem sigPostsASignal : Obligations.SigPostsASignal :=
  ⟨decodeWord_encodeWord .sig, fun c => by cases c <;> simp [mayExecute],
    fun _ => ⟨rfl, _, rfl, rfl, rfl, rfl⟩⟩

theorem opT_ne_wait : ∀ pc, opT pc ≠ .wait := by decide

/-- No program holds a `WAIT`: it is an operation of agent `T`, and `PROG_T` has none (R66). -/
theorem opAt_ne_wait (a : AgentId) (s : State) : opAt a s ≠ .wait := by
  intro h
  have own := contextFor_opAt a s
  rw [h] at own
  cases own
  exact opT_ne_wait s.pcT h

/-- Settles O18: `WAIT` takes what is pending, is held otherwise, and stays held until a signal is
posted. -/
theorem waitTakesThePendingSignal : Obligations.WaitTakesThePendingSignal := by
  refine ⟨decodeWord_encodeWord .wait, onlyIn_contextFor (i := .wait) (by simp) (by simp),
    fun a s h => ?_, fun s hp => ⟨_, exec_wait_of_pend hp, rfl, rfl, rfl, rfl, rfl⟩,
    fun s hp => held_wait hp, fun i s t hp ht hsig hedge => ?_⟩
  · rw [decode_fetchWord] at h
    exact opAt_ne_wait a s (Except.ok.inj h)
  · have quiet : postsSignal i s = false := by
      cases i with
      | sig => exact absurd rfl hsig
      | btn b =>
        refine Bool.eq_false_iff.mpr fun edge => hedge ?_
        obtain ⟨hq, rfl⟩ := fallingEdge_iff.mp edge
        exact ⟨rfl, hq⟩
      | _ => rfl
    exact held_wait (pend_of_not_posts quiet ht hp)

theorem opT_eq_waitt_iff : ∀ pc, opT pc = .waitt ↔ pc = 1 := by decide

/-- Settles O19: the pending test of `WAITT` comes before its deadline. -/
theorem waittTakesTimesOutOrIsHeld : Obligations.WaittTakesTimesOutOrIsHeld := by
  refine ⟨decodeWord_encodeWord .waitt, onlyIn_contextFor (i := .waitt) (by simp) (by simp),
    fun s => ?_, fun s hp => ⟨_, exec_waitt_of_pend hp, rfl, rfl, rfl, rfl, rfl⟩,
    fun s hp hd => ⟨_, exec_waitt_of_due hp hd, hp, rfl, rfl, rfl, rfl⟩,
    fun s hp hd => held_waitt hp hd⟩
  rw [decode_fetchWord, Except.ok.injEq]
  exact opT_eq_waitt_iff s.pcT

end Sys2Proof.Machine

/-! PROOFS. The tone selector (spec/42_tone_selector.md R86 to R90): where each of its operations
stands and who executes it, and what each does to the deadline, the index and the buzzer. -/

namespace Sys2Proof.Machine

/-! ### Where an operation stands -/

/-- The operations of an agent are that agent's alone (R64, R130). -/
theorem onlyIn_of_contextFor_agent {i : Instr} {a : AgentId} (h : contextFor i = .agent a) :
    OnlyIn (.agent a) i :=
  h ▸ onlyIn_contextFor (by rintro d rfl; cases h) (by rintro rfl; cases h)

/-- `PROG_T` holds each of its operations once (R66). -/
theorem opT_injective : Function.Injective opT := by decide

/-- Agent `T` fetches an operation of its program at that operation's phase and no other. -/
theorem decode_fetchWord_eq_opT_iff (pc : Fin 6) (s : State) :
    decodeWord (fetchWord .toneSelector s) = .ok (opT pc) ↔ s.pcT = pc := by
  rw [decode_fetchWord, Except.ok.injEq]
  exact opT_injective.eq_iff

/-! ### The parameters and the tones -/

theorem ticks_eq_fifteen_or_sixteen (p : PollTicks) : p.ticks = 15 ∨ p.ticks = 16 := by
  cases p with
  | fifteen => exact .inl rfl
  | sixteen => exact .inr rfl

/-- `TONE_TABLE` as numbers (R57). -/
theorem toNat_toneAt : ∀ k : Fin 6,
    (toneAt k).toNat = [500, 1000, 1500, 2000, 3000, 9500].getD k.val 0 := by decide

/-! ### The operations with two cases, and the sleep -/

theorem exec_tadv_of_got {s : State} (h : s.got = true) :
    exec .tadv s = .next { s with tidx := cycle s.tidx }.nextT := by
  rw [exec, execTadv, if_pos h]

theorem exec_tadv_of_not_got {s : State} (h : ¬ s.got = true) :
    exec .tadv s = .next s.nextT := by
  rw [exec, execTadv, if_neg h]

theorem enabled_twake_iff (s : State) : enabled .twake s = true ↔ s.tmrT ≤ s.now := dueT_iff s

theorem exec_twake_of_due {s : State} (h : s.tmrT ≤ s.now) : exec .twake s = .next s.nextT := by
  rw [exec, execTwake, if_pos ((dueT_iff s).mpr h)]

theorem held_twake {s : State} (h : s.now < s.tmrT) : Held .twake s :=
  held_of_not_enabled ((dueT_eq_false s).mpr h)

/-- A sleep of no ticks is over where it starts (R89). -/
theorem enabled_twake_armT_zero (s : State) : enabled .twake (s.armT 0).nextT = true :=
  (enabled_twake_iff _).mpr le_rfl

/-! ### The obligations -/

/-- Settles O24: `TARM` starts a delay of `T_POLL` ticks. -/
theorem tarmSetsTheWaitDeadline : Obligations.TarmSetsTheWaitDeadline :=
  ⟨decodeWord_encodeWord .tarm, onlyIn_of_contextFor_agent rfl, decode_fetchWord_eq_opT_iff 0,
    fun s => ⟨rfl, _, rfl, rfl, ticks_eq_fifteen_or_sixteen s.params.tPoll, rfl, rfl⟩⟩

/-- Settles O25: the two cases of `TADV`, a signal taken and none. -/
theorem tadvAdvancesOnATakenSignal : Obligations.TadvAdvancesOnATakenSignal := by
  refine ⟨decodeWord_encodeWord .tadv, onlyIn_of_contextFor_agent rfl,
    decode_fetchWord_eq_opT_iff 2, fun s => ⟨rfl, ?_⟩⟩
  split
  next taken => exact ⟨_, exec_tadv_of_got taken, rfl, rfl, rfl⟩
  next idle => exact ⟨_, exec_tadv_of_not_got idle, rfl, rfl, rfl⟩

/-- Settles O26: `TDRV` presents the tone at the index, with no case in which it does not. -/
theorem tdrvPresentsTheSelectedTone : Obligations.TdrvPresentsTheSelectedTone :=
  ⟨decodeWord_encodeWord .tdrv, onlyIn_of_contextFor_agent rfl, decode_fetchWord_eq_opT_iff 3,
    fun s => ⟨rfl, _, rfl, toNat_toneAt s.tidx, rfl, rfl, rfl, rfl, rfl⟩⟩

/-- Settles O27: `TSLP` starts a delay of `T_TSLEEP` ticks. -/
theorem tslpStartsTheSleep : Obligations.TslpStartsTheSleep := by
  refine ⟨decodeWord_encodeWord .tslp, onlyIn_of_contextFor_agent rfl,
    decode_fetchWord_eq_opT_iff 4, fun s => ⟨rfl, _, rfl, rfl, rfl, fun hzero => ?_, rfl⟩⟩
  rw [hzero]
  exact enabled_twake_armT_zero s

/-- Settles O28: the two cases of `TWAKE`, at its deadline and before it. -/
theorem twakeEndsTheSleep : Obligations.TwakeEndsTheSleep :=
  ⟨decodeWord_encodeWord .twake, onlyIn_of_contextFor_agent rfl, decode_fetchWord_eq_opT_iff 5,
    fun _ due => ⟨_, exec_twake_of_due due, rfl, rfl⟩, fun _ => held_twake⟩

end Sys2Proof.Machine

/-! PROOFS. The counter (spec/43_counter.md R96 to R98): where each of its operations stands, and
what each does to the value and to the deadline of the sleep. -/

namespace Sys2Proof.Machine

/-! ### Where an operation stands, and the wake -/

/-- `PROG_C` holds each of its operations once (R66). -/
theorem opC_injective : Function.Injective opC := by decide

/-- Agent `C` fetches an operation of its program at that operation's phase and no other. -/
theorem decode_fetchWord_eq_opC_iff (pc : Fin 3) (s : State) :
    decodeWord (fetchWord .counter s) = .ok (opC pc) ↔ s.pcC = pc := by
  rw [decode_fetchWord, Except.ok.injEq]
  exact opC_injective.eq_iff

theorem exec_cwake_of_due {s : State} (h : s.tmrC ≤ s.now) : exec .cwake s = .next s.nextC := by
  rw [exec, execCwake, if_pos ((dueC_iff s).mpr h)]

theorem held_cwake {s : State} (h : s.now < s.tmrC) : Held .cwake s :=
  held_of_not_enabled ((dueC_eq_false s).mpr h)

/-! ### The obligations -/

/-- Settles O29: `CINC` writes the cyclic successor of the value, with no case in which it does
not. -/
theorem cincIncrementsModulo100 : Obligations.CincIncrementsModulo100 :=
  ⟨decodeWord_encodeWord .cinc, onlyIn_of_contextFor_agent rfl, decode_fetchWord_eq_opC_iff 0,
    fun _ => ⟨rfl, _, rfl, rfl, rfl, rfl, rfl⟩⟩

/-- Settles O30: `CSLP` starts a delay of 1000 ticks, counted from its own tick. -/
theorem cslpStartsTheSecond : Obligations.CslpStartsTheSecond :=
  ⟨decodeWord_encodeWord .cslp, onlyIn_of_contextFor_agent rfl, decode_fetchWord_eq_opC_iff 1,
    fun _ => ⟨rfl, _, rfl, rfl, rfl, rfl⟩⟩

/-- Settles O31: the two cases of `CWAKE`, at its deadline and before it. -/
theorem cwakeEndsTheSecond : Obligations.CwakeEndsTheSecond :=
  ⟨decodeWord_encodeWord .cwake, onlyIn_of_contextFor_agent rfl, decode_fetchWord_eq_opC_iff 2,
    fun _ due => ⟨_, exec_cwake_of_due due, rfl, rfl⟩, fun _ => held_cwake⟩

end Sys2Proof.Machine

/-! PROOFS. The display (spec/44_display_mux.md R102 to R107): where each of its operations stands
in the two halves of a frame, what each does to the segments, the digit select and the window, and
the decimal digits of a value. -/

namespace Sys2Proof.Machine

/-! ### Where an operation stands -/

/-- Agent `D` fetches an operation at the phases where `PROG_D` holds it, which may be two. -/
theorem decode_fetchWord_display_iff {i : Instr} {phases : Fin 10 → Prop}
    (h : ∀ pc, opD pc = i ↔ phases pc) (s : State) :
    decodeWord (fetchWord .display s) = .ok i ↔ phases s.pcD := by
  rw [decode_fetchWord, Except.ok.injEq]
  exact h s.pcD

theorem opD_eq_dblk_iff : ∀ pc, opD pc = .dblk ↔ pc = 0 ∨ pc = 5 := by decide

theorem opD_eq_dld_tens_iff : ∀ pc, opD pc = .dld .tens ↔ pc = 1 := by decide

theorem opD_eq_dld_units_iff : ∀ pc, opD pc = .dld .units ↔ pc = 6 := by decide

theorem opD_eq_den_tens_iff : ∀ pc, opD pc = .den .tens ↔ pc = 2 := by decide

theorem opD_eq_den_units_iff : ∀ pc, opD pc = .den .units ↔ pc = 7 := by decide

theorem opD_eq_dhld_iff : ∀ pc, opD pc = .dhld ↔ pc = 3 ∨ pc = 8 := by decide

theorem opD_eq_dwake_iff : ∀ pc, opD pc = .dwake ↔ pc = 4 ∨ pc = 9 := by decide

/-! ### The positions, and the wake -/

/-- Only the units digit of a machine with `SNAPSHOT` shows an earlier reading (R103, D18). -/
theorem readsCounter_iff {s : State} {p : Position} :
    readsCounter s p = true ↔ p = .tens ∨ s.params.snapshot = false := by
  cases p <;> simp

theorem digitOf_val (p : Position) (v : Fin 100) :
    if p = .tens then (digitOf p v).val = v.val / 10 else (digitOf p v).val = v.val % 10 := by
  cases p <;> simp

theorem bits_selectOf (p : Position) :
    (selectOf p).bits = if p = .tens then 0b10 else 0b01 := by
  cases p <;> rfl

theorem exec_dwake_of_due {s : State} (h : s.tmrD ≤ s.now) : exec .dwake s = .next s.nextD := by
  rw [exec, execDwake, if_pos ((dueD_iff s).mpr h)]

theorem held_dwake {s : State} (h : s.now < s.tmrD) : Held .dwake s :=
  held_of_not_enabled ((dueD_eq_false s).mpr h)

/-! ### The decimal digits of a value -/

theorem tensDigit_le_nine (v : Fin 100) : (tensDigit v).val ≤ 9 := by
  rw [tensDigit_val]
  omega

theorem unitsDigit_le_nine (v : Fin 100) : (unitsDigit v).val ≤ 9 := by
  rw [unitsDigit_val]
  omega

/-- A value is recomposed from its digits: Euclidean division by ten. -/
theorem eq_ten_mul_tensDigit_add_unitsDigit (v : Fin 100) :
    v.val = 10 * (tensDigit v).val + (unitsDigit v).val :=
  (Nat.div_add_mod v.val 10).symm

theorem eq_of_digits_eq {v w : Fin 100} (htens : tensDigit v = tensDigit w)
    (hunits : unitsDigit v = unitsDigit w) : v = w := by
  ext
  rw [eq_ten_mul_tensDigit_add_unitsDigit v, htens, hunits,
    ← eq_ten_mul_tensDigit_add_unitsDigit w]

/-! ### The obligations -/

/-- Settles O32: `DBLK` selects no digit, with no case in which it does not. -/
theorem dblkBlanksTheDisplay : Obligations.DblkBlanksTheDisplay :=
  ⟨decodeWord_encodeWord .dblk, onlyIn_of_contextFor_agent rfl,
    decode_fetchWord_display_iff opD_eq_dblk_iff, fun _ => ⟨rfl, _, rfl, rfl, rfl, rfl, rfl⟩⟩

/-- Settles O33: `DLD p` shows the digit of the value it has read, or of the one it keeps. -/
theorem dldLoadsOneDecimalDigit : Obligations.DldLoadsOneDecimalDigit := by
  refine ⟨decodeWord_encodeWord (.dld .tens), decodeWord_encodeWord (.dld .units),
    fun _ => onlyIn_of_contextFor_agent rfl, decode_fetchWord_display_iff opD_eq_dld_tens_iff,
    decode_fetchWord_display_iff opD_eq_dld_units_iff,
    fun p s => ⟨rfl, _, rfl, ?_, digitOf_val p (s.readCounter p).val, rfl, rfl, rfl, rfl⟩⟩
  split
  next reads => exact if_pos (readsCounter_iff.mpr reads)
  next keeps => exact if_neg (mt readsCounter_iff.mp keeps)

/-- Settles O34: `DEN p` writes the select value of its position, whatever `DIG` was. -/
theorem denEnablesOneDigit : Obligations.DenEnablesOneDigit :=
  ⟨decodeWord_encodeWord (.den .tens), decodeWord_encodeWord (.den .units),
    fun _ => onlyIn_of_contextFor_agent rfl, decode_fetchWord_display_iff opD_eq_den_tens_iff,
    decode_fetchWord_display_iff opD_eq_den_units_iff,
    fun p _ => ⟨rfl, _, rfl, bits_selectOf p, rfl, rfl, rfl⟩⟩

/-- Settles O35: `DHLD` starts a delay of one tick, counted from its own tick. -/
theorem dhldStartsTheWindow : Obligations.DhldStartsTheWindow :=
  ⟨decodeWord_encodeWord .dhld, onlyIn_of_contextFor_agent rfl,
    decode_fetchWord_display_iff opD_eq_dhld_iff, fun _ => ⟨rfl, _, rfl, rfl, rfl, rfl⟩⟩

/-- Settles O36: the two cases of `DWAKE`, at its deadline and before it. -/
theorem dwakeEndsTheWindow : Obligations.DwakeEndsTheWindow :=
  ⟨decodeWord_encodeWord .dwake, onlyIn_of_contextFor_agent rfl,
    decode_fetchWord_display_iff opD_eq_dwake_iff,
    fun _ due => ⟨_, exec_dwake_of_due due, rfl, rfl⟩, fun _ => held_dwake⟩

/-- Settles O37: the digits are quotient and remainder by ten, which recompose the value. -/
theorem digitsDetermineTheValue : Obligations.DigitsDetermineTheValue :=
  ⟨fun v => ⟨tensDigit_val v, unitsDigit_val v, tensDigit_le_nine v, unitsDigit_le_nine v,
      eq_ten_mul_tensDigit_add_unitsDigit v⟩,
    fun _ _ => eq_of_digits_eq, rfl, rfl, rfl, rfl⟩

end Sys2Proof.Machine

/-! PROOFS. The time base (spec/45_time_base.md R113 to R115): when the agents hold time, and how
long an operation and a run of operations can leave a delay. -/

namespace Sys2Proof.Machine

/-! ### When every agent is held -/

/-- Agent `T` is held at its wait and at the end of its sleep, before its deadline (R115). -/
theorem agentEnabled_toneSelector_eq_false (s : State) :
    agentEnabled .toneSelector s = false ↔
      (s.pcT = 1 ∧ s.pend = false ∧ s.now < s.tmrT) ∨ (s.pcT = 5 ∧ s.now < s.tmrT) := by
  rw [agentEnabled_eq, opAt]
  generalize s.pcT = pc
  fin_cases pc <;> simp [opT, programOpEnabled]

/-- Agent `C` is held at the end of its sleep, before its deadline (R115). -/
theorem agentEnabled_counter_eq_false (s : State) :
    agentEnabled .counter s = false ↔ s.pcC = 2 ∧ s.now < s.tmrC := by
  rw [agentEnabled_eq, opAt]
  generalize s.pcC = pc
  fin_cases pc <;> simp [opC, programOpEnabled]

/-- Agent `D` is held at the end of a window, before its deadline (R115). -/
theorem agentEnabled_display_eq_false (s : State) :
    agentEnabled .display s = false ↔ (s.pcD = 4 ∨ s.pcD = 9) ∧ s.now < s.tmrD := by
  rw [agentEnabled_eq, opAt]
  generalize s.pcD = pc
  fin_cases pc <;> simp [opD, programOpEnabled]

theorem allHeld_iff (s : State) : s.allHeld = true ↔ AllAgentsHeld s := by
  simp only [State.allHeld, AllAgentsHeld, Bool.and_eq_true, Bool.not_eq_true', and_assoc,
    agentEnabled_toneSelector_eq_false, agentEnabled_counter_eq_false,
    agentEnabled_display_eq_false]

theorem enabled_tick_iff (s : State) :
    enabled .tick s = true ↔ s.params.maxProg = false ∨ AllAgentsHeld s := by
  simp only [enabled, State.tickEnabled, Bool.or_eq_true, Bool.not_eq_true', allHeld_iff]

theorem exec_tick_of_enabled {s : State} (h : enabled .tick s = true) :
    exec .tick s = .next { s with now := s.now + 1 } :=
  congrArg Host.Outcome.next (if_pos h)

/-! ### A delay while other operations are executed -/

/-- The operations that write an agent's deadline: those that start a delay of it, and `RST`. -/
def deadlineWriters : AgentId → List Instr
  | .toneSelector => [.tarm, .tslp, .rst]
  | .counter => [.cslp, .rst]
  | .display => [.dhld, .rst]

/-- From one state to another an agent's deadline stays, and at most `k` ticks pass. -/
def DelayRuns (a : AgentId) (k : Nat) (s t : State) : Prop :=
  t.deadline a = s.deadline a ∧ t.now ≤ s.now + k

theorem DelayRuns.refl (a : AgentId) (k : Nat) (s : State) : DelayRuns a k s s :=
  ⟨rfl, Nat.le_add_right s.now k⟩

theorem DelayRuns.trans {a : AgentId} {j k : Nat} {s t u : State} (h : DelayRuns a j s t)
    (h' : DelayRuns a k t u) : DelayRuns a (j + k) s u := by
  obtain ⟨deadline, now⟩ := h
  obtain ⟨deadline', now'⟩ := h'
  exact ⟨deadline'.trans deadline, by omega⟩

/-- Time passes by `TICK` alone, and only the writers of a deadline move it (R15, R114). -/
theorem delayRuns_exec {a : AgentId} {i : Instr} {s t : State} (hi : i ∉ deadlineWriters a)
    (h : exec i s = .next t) : DelayRuns a ([i].count .tick) s t := by
  have keep (k : Nat) := DelayRuns.refl a k s
  cases i <;> obtain rfl := Host.Outcome.next.inj h
  case tick =>
    cases s.tickEnabled
    · exact keep _
    · exact ⟨rfl, le_rfl⟩
  case rst => cases a <;> simp [deadlineWriters] at hi
  case tarm | tslp =>
    cases a with
    | toneSelector => simp [deadlineWriters] at hi
    | counter | display => exact keep _
  case cslp =>
    cases a with
    | counter => simp [deadlineWriters] at hi
    | toneSelector | display => exact keep _
  case dhld =>
    cases a with
    | display => simp [deadlineWriters] at hi
    | toneSelector | counter => exact keep _
  case btn b => cases fallingEdge s.btnq b <;> exact keep _
  case wait => cases s.pend <;> exact keep _
  case waitt => cases s.pend <;> cases s.dueT <;> exact keep _
  case tadv => cases s.got <;> exact keep _
  case twake => cases s.dueT <;> exact keep _
  case cwake => cases s.dueC <;> exact keep _
  case dwake => cases s.dueD <;> exact keep _
  case enc | sig | tdrv | cinc | dblk | dld | den => exact keep _

theorem delayRuns_execAll {a : AgentId} {is : List Instr} {s u : State}
    (hi : ∀ i ∈ is, i ∉ deadlineWriters a) (h : execAll is s = .next u) :
    DelayRuns a (is.count .tick) s u := by
  induction is generalizing s with
  | nil =>
    obtain rfl := Host.Outcome.next.inj h
    exact DelayRuns.refl a _ s
  | cons i is ih =>
    obtain ⟨t, ht⟩ := exec_answers i s
    rw [execAll_cons ht] at h
    obtain ⟨hi, his⟩ := List.forall_mem_cons.mp hi
    rw [← List.singleton_append, List.count_append]
    exact (delayRuns_exec hi ht).trans (ih his h)

/-- A delay of `n` ticks that has ended has lasted `n` ticks, and as many `TICK`s at least (R114). -/
theorem ticks_of_elapsed_delay {a : AgentId} {n : Nat} {is : List Instr} {s u : State}
    (start : s.deadline a = s.now + n) (hi : ∀ i ∈ is, i ∉ deadlineWriters a)
    (h : execAll is s = .next u) (due : u.deadline a ≤ u.now) :
    s.now + n ≤ u.now ∧ n ≤ is.count .tick := by
  obtain ⟨deadline, now⟩ := delayRuns_execAll hi h
  omega

/-- Without a signal only its deadline ends a wait (R79). -/
theorem due_of_enabled_waitt {s : State} (hp : s.pend = false) (h : enabled .waitt s = true) :
    s.tmrT ≤ s.now := by
  simpa [enabled, programOpEnabled, hp] using h

/-! ### The obligations -/

/-- Settles O40: each starting operation leaves a state whose deadline lies `n` ticks ahead, and
the ending operation is enabled only when that deadline is reached. -/
theorem delaysAreLowerBounds : Obligations.DelaysAreLowerBounds := by
  refine ⟨fun is s u hi h hp he => ?_, fun is s u hi h he => ?_, fun is s u hi h he => ?_,
    fun is s u hi h he => ?_, fun s => ?_⟩
  · exact ticks_of_elapsed_delay (a := .toneSelector) (s := (s.armT s.params.tPoll.ticks).nextT)
      rfl hi h (due_of_enabled_waitt hp he)
  · exact ticks_of_elapsed_delay (a := .toneSelector) (s := (s.armT s.params.tTSleep).nextT)
      rfl hi h ((enabled_twake_iff u).mp he)
  · exact ticks_of_elapsed_delay (a := .counter) (s := (s.armC tCnt).nextC)
      rfl hi h ((dueC_iff u).mp he)
  · exact ticks_of_elapsed_delay (a := .display) (s := (s.armD tHold).nextD)
      rfl hi h ((dueD_iff u).mp he)
  · refine ⟨_, _, _, _, rfl, rfl, rfl, rfl, fun hzero => ?_, rfl, rfl, rfl, rfl⟩
    rw [hzero]
    exact enabled_twake_armT_zero s

/-- Settles O39: `TICK` is enabled exactly when nothing holds time, and a held one changes
nothing. -/
theorem tickAdvancesTime : Obligations.TickAdvancesTime := by
  refine ⟨decodeWord_encodeWord .tick, onlyIn_contextFor (i := .tick) (by simp) (by simp),
    fun s free => exec_tick_of_enabled ((enabled_tick_iff s).mpr free),
    fun s paced busy => held_of_not_enabled (Bool.eq_false_iff.mpr fun he => ?_)⟩
  obtain free | held := (enabled_tick_iff s).mp he
  · rw [paced] at free
    cases free
  · exact busy held

end Sys2Proof.Machine

/-! PROOFS. Exceptions (spec/60_exceptions.md): what taking the interrupt leaves (R126), and the
refusal of an operation in a context that may not execute it (R120, R130). -/

namespace Sys2Proof.Machine

/-! ### Contexts and their refusals -/

/-- An operation asked for in a context that may not execute it is refused, before the ranges are
looked at (R130, U13). -/
theorem step_of_asked_not_mayExecute {s : State} {c : Context} {i : Instr} (hs : s.setupOk = true)
    (hq : s.nextRequest = .asked c (encodeWord i)) (hm : mayExecute c i = false) :
    step s = .refused (contextRefusal c i) := by
  rw [step, if_pos hs, fetched_of_asked hq, decodeWord_encodeWord]
  exact if_neg (Bool.eq_false_iff.mp hm)

/-- What an agent fetches, it may execute (R130). -/
theorem mayExecute_of_fetchWord {a : AgentId} {s : State} {i : Instr}
    (h : decodeWord (fetchWord a s) = .ok i) : mayExecute (.agent a) i = true := by
  rw [decode_fetchWord] at h
  exact Except.ok.inj h ▸ mayExecute_opAt a s

/-- The waits on the channel are operations of agent `T` (R64, R75). -/
theorem mayExecute_eq_false_of_wait {a : AgentId} {i : Instr} (ha : a ≠ .toneSelector)
    (hi : i = .wait ∨ i = .waitt) : mayExecute (.agent a) i = false := by
  have onlyT : OnlyIn (.agent .toneSelector) i := by
    obtain rfl | rfl := hi <;> exact onlyIn_of_contextFor_agent rfl
  exact Bool.eq_false_iff.mpr fun hm => ha (Context.agent.inj ((onlyT _).mp hm))

theorem contextRefusal_of_wait (a : AgentId) {i : Instr} (hi : i = .wait ∨ i = .waitt) :
    contextRefusal (.agent a) i = .multiWait := by
  obtain rfl | rfl := hi <;> rfl

/-! ### The interrupt -/

/-- Taking the interrupt moves no agent (R126). -/
theorem phase_takeInterrupt (s : State) (a : AgentId) : s.takeInterrupt.phase a = s.phase a := by
  cases a <;> rfl

/-! ### The obligations -/

/-- Settles O23: the entry is the handler's `SIG` alone, and a falling edge runs it before the
level is remembered. -/
theorem interruptEntrySavesNothing : Obligations.InterruptEntrySavesNothing := fun s =>
  ⟨rfl, phase_takeInterrupt s, fun hq => ⟨_, exec_btn_of_edge ⟨hq, rfl⟩, rfl, rfl⟩⟩

/-- Settles O42: another agent than `T` may not execute a wait, so none stands in its program and
one it is asked for is refused. -/
theorem secondWaiterIsRefused : Obligations.SecondWaiterIsRefused := by
  refine ⟨fun a s ha => ?_, fun s a i hs ha hi hq => ?_⟩
  · have unfetched {i : Instr} (hi : i = .wait ∨ i = .waitt) :
        decodeWord (fetchWord a s) ≠ .ok i := fun h =>
      Bool.eq_false_iff.mp (mayExecute_eq_false_of_wait ha hi) (mayExecute_of_fetchWord h)
    exact ⟨unfetched (.inl rfl), unfetched (.inr rfl)⟩
  · rw [step_of_asked_not_mayExecute hs hq (mayExecute_eq_false_of_wait ha hi),
      contextRefusal_of_wait a hi]

end Sys2Proof.Machine

/-! PROOFS. Reset and the platform's setup (spec/70_reset_and_hazards.md): `RST` gives the reset
state of R36 (R141), and the setup's outcome alone decides whether the block runs (R145). -/

namespace Sys2Proof.Machine

/-! ### Reset -/

/-- Settles O11: every register after `RST` is that of `State.resetWith` at the line's level, from
every state. -/
theorem rstGivesTheResetState : Obligations.RstGivesTheResetState :=
  ⟨decodeWord_encodeWord .rst, onlyIn_contextFor (i := .rst) (by simp) (by simp),
    fun s => ⟨_, rfl, by simp [DigSel.bits]⟩⟩

/-! ### What no operation changes -/

/-- What the platform and the environment fix (R142, R144, R139; log 1, 3, 7) is the same in two
states: the parameters, the setup's outcome and the schedule. -/
def SettingKept (s t : State) : Prop :=
  t.params = s.params ∧ t.setupOk = s.setupOk ∧ t.queue = s.queue ∧ t.choices = s.choices

theorem SettingKept.refl (s : State) : SettingKept s s := ⟨rfl, rfl, rfl, rfl⟩

/-- No operation changes the setting, `RST` included (R142; log 11). -/
theorem settingKept_exec {i : Instr} {s t : State} (h : exec i s = .next t) : SettingKept s t := by
  have keep := SettingKept.refl s
  cases i <;> obtain rfl := Host.Outcome.next.inj h
  case btn b => cases fallingEdge s.btnq b <;> exact keep
  case wait => cases s.pend <;> exact keep
  case waitt => cases s.pend <;> cases s.dueT <;> exact keep
  case tadv => cases s.got <;> exact keep
  case twake => cases s.dueT <;> exact keep
  case cwake => cases s.dueC <;> exact keep
  case dwake => cases s.dueD <;> exact keep
  case tick => cases s.tickEnabled <;> exact keep
  case enc | sig | tarm | tdrv | tslp | cinc | cslp | dblk | dld | den | dhld | rst => exact keep

/-! ### The setup's outcome -/

/-- After a failed setup every step is refused, whatever it would execute (R145). -/
theorem step_of_failed {s : State} (hs : s.setupOk = false) : step s = .refused .cfg :=
  if_neg (Bool.eq_false_iff.mp hs)

/-- After a failed setup a port shows no value, whatever its register holds (R145). -/
theorem port_ne_shows_of_failed {α : Type} {s : State} (hs : s.setupOk = false) (x : PortRead α)
    (y : α) : s.port x ≠ .shows y := by
  simp [port_of_failed hs]

/-- After a successful setup every move of the block is executed, as no operation fails (R117). -/
theorem step_answers_of_onlyMoves {s : State} (hs : s.setupOk = true) (hr : RangesInv s)
    (hm : s.onlyMoves) : ∃ t, step s = .next t := by
  obtain ⟨m, hreq⟩ := nextRequest_of_onlyMoves hm
  rw [step_of_move hs hr hreq]
  exact exec_answers _ _

/-- Settles O14: the setup's outcome is looked at before everything else, no operation fails or
changes it, and a move is refused for nothing else within the ranges. -/
theorem setupDecidesWhetherTheBlockRuns : Obligations.SetupDecidesWhetherTheBlockRuns := by
  refine ⟨fun s hs => ⟨step_of_failed hs, ?_⟩, fun i s => ?_, fun _ => step_answers_of_onlyMoves⟩
  · exact ⟨port_ne_shows_of_failed hs _, port_ne_shows_of_failed hs _,
      port_ne_shows_of_failed hs _, port_ne_shows_of_failed hs _⟩
  · obtain ⟨t, ht⟩ := exec_answers i s
    obtain ⟨-, setup, -⟩ := settingKept_exec ht
    exact ⟨t, ht, setup⟩

end Sys2Proof.Machine

/-! PROOFS. What one operation does: its cases with every condition resolved, the registers it
writes (spec/10_state.md R15), the events it emits (R35), and when it is held (R136). -/

namespace Sys2Proof.Machine

/-! ### The cases of an operation -/

/-- What an operation can do in a state: it is held, or one of its rules applies. -/
inductive Does (s : State) : Instr → State → Prop
  | held {i : Instr} (h : enabled i s = false) : Does s i s
  | enc (d : DigitCode) : Does s (.enc d) { s with encResult := some (encode7 s.params d) }
  | edge {b : Bool} (h : s.btnq = true ∧ b = false) :
      Does s (.btn b) { s.signal with btnq := b, btn := b }
  | level {b : Bool} (h : ¬ (s.btnq = true ∧ b = false)) :
      Does s (.btn b) { s with btnq := b, btn := b }
  | sig : Does s .sig s.signal
  | wait (h : s.pend = true) : Does s .wait s.takeSignal.nextT
  | take (h : s.pend = true) : Does s .waitt s.takeSignal.nextT
  | timeOut (hp : s.pend = false) (hd : s.tmrT ≤ s.now) : Does s .waitt s.timeOut.nextT
  | tarm : Does s .tarm (s.armT s.params.tPoll.ticks).nextT
  | advance (h : s.got = true) : Does s .tadv { s with tidx := cycle s.tidx }.nextT
  | stay (h : s.got = false) : Does s .tadv s.nextT
  | tdrv : Does s .tdrv (s.presentTone (toneAt s.tidx) s.params.duty).nextT
  | tslp : Does s .tslp (s.armT s.params.tTSleep).nextT
  | twake (h : s.tmrT ≤ s.now) : Does s .twake s.nextT
  | cinc : Does s .cinc (s.setCount (cycle s.cnt)).nextC
  | cslp : Does s .cslp (s.armC tCnt).nextC
  | cwake (h : s.tmrC ≤ s.now) : Does s .cwake s.nextC
  | dblk : Does s .dblk (s.setSelect .blank).nextD
  | dld (p : Position) :
      Does s (.dld p) ((s.readCounter p).showDigit (digitOf p (s.readCounter p).val)).nextD
  | den (p : Position) : Does s (.den p) (s.setSelect (selectOf p)).nextD
  | dhld : Does s .dhld (s.armD tHold).nextD
  | dwake (h : s.tmrD ≤ s.now) : Does s .dwake s.nextD
  | tick (h : enabled .tick s = true) : Does s .tick { s with now := s.now + 1 }
  | rst : Does s .rst { State.resetWith s.params s.btn with
      setupOk := s.setupOk, queue := s.queue, choices := s.choices }

theorem does_of_exec_eq {i : Instr} {s t u : State} (hu : Does s i u) (ht : exec i s = .next t)
    (h : exec i s = .next u) : Does s i t :=
  Host.Outcome.next.inj (h.symm.trans ht) ▸ hu

/-- Every answer of an operation is one of its cases. -/
theorem does_of_exec {i : Instr} {s t : State} (h : exec i s = .next t) : Does s i t := by
  cases he : enabled i s
  · exact does_of_exec_eq (.held he) h (exec_of_held he)
  · cases i with
    | btn b =>
      by_cases hb : s.btnq = true ∧ b = false
      · exact does_of_exec_eq (.edge hb) h (exec_btn_of_edge hb)
      · exact does_of_exec_eq (.level hb) h (exec_btn_of_no_edge hb)
    | wait => exact does_of_exec_eq (.wait he) h (exec_wait_of_pend he)
    | waitt =>
      cases hp : s.pend
      · have hd := due_of_enabled_waitt hp he
        exact does_of_exec_eq (.timeOut hp hd) h (exec_waitt_of_due hp hd)
      · exact does_of_exec_eq (.take hp) h (exec_waitt_of_pend hp)
    | tadv =>
      cases hg : s.got
      · exact does_of_exec_eq (.stay hg) h (exec_tadv_of_not_got (by simp [hg]))
      · exact does_of_exec_eq (.advance hg) h (exec_tadv_of_got hg)
    | twake =>
      have hd := (dueT_iff s).mp he
      exact does_of_exec_eq (.twake hd) h (exec_twake_of_due hd)
    | cwake =>
      have hd := (dueC_iff s).mp he
      exact does_of_exec_eq (.cwake hd) h (exec_cwake_of_due hd)
    | dwake =>
      have hd := (dueD_iff s).mp he
      exact does_of_exec_eq (.dwake hd) h (exec_dwake_of_due hd)
    | tick => exact does_of_exec_eq (.tick he) h (exec_tick_of_enabled he)
    | enc d => exact does_of_exec_eq (.enc d) h rfl
    | dld p => exact does_of_exec_eq (.dld p) h rfl
    | den p => exact does_of_exec_eq (.den p) h rfl
    | sig => exact does_of_exec_eq .sig h rfl
    | tarm => exact does_of_exec_eq .tarm h rfl
    | tdrv => exact does_of_exec_eq .tdrv h rfl
    | tslp => exact does_of_exec_eq .tslp h rfl
    | cinc => exact does_of_exec_eq .cinc h rfl
    | cslp => exact does_of_exec_eq .cslp h rfl
    | dblk => exact does_of_exec_eq .dblk h rfl
    | dhld => exact does_of_exec_eq .dhld h rfl
    | rst => exact does_of_exec_eq .rst h rfl

/-! ### The registers an operation writes -/

theorem Reg.same.refl (r : Reg) (s : State) : r.same s s := by cases r <;> rfl

/-- Settles O44: each case of an operation leaves the registers whose column of writers it does not
stand in. -/
theorem onlyWritersChangeARegister : Obligations.OnlyWritersChangeARegister := by
  intro r i s t h hr hw
  cases does_of_exec h
  case held => exact Reg.same.refl r s
  case rst => exact absurd rfl hr
  case dld p | den p => revert hw; cases p <;> cases r <;> simp [Reg.writers, Reg.same]
  all_goals revert hw; cases r <;> simp [Reg.writers, Reg.same]

/-! ### The events an operation emits -/

/-- What an operation appends to the trace (R35). -/
def emits (i : Instr) (s : State) : List Event :=
  match i with
  | .btn b => if fallingEdge s.btnq b then [.sig] else []
  | .sig => [.sig]
  | .wait => if s.pend then [.take] else []
  | .waitt => if s.pend then [.take] else if s.dueT then [.timeout] else []
  | .tdrv => [.buzzSet (toneAt s.tidx) s.params.duty]
  | .cinc => [.inc (cycle s.cnt)]
  | .dblk => [.digSet .blank]
  | .dld p => [.segSet (encode7 s.params (digitOf p (s.readCounter p).val))]
  | .den p => [.digSet (selectOf p)]
  | _ => []

theorem emits_of_held {i : Instr} {s : State} (h : enabled i s = false) : emits i s = [] := by
  cases i <;> simp_all [emits, enabled, programOpEnabled]

theorem trace_exec {i : Instr} {s t : State} (h : exec i s = .next t) (hr : i ≠ .rst) :
    t.trace = s.trace ++ emits i s := by
  cases does_of_exec h
  case held he => simp [emits_of_held he]
  case edge hb => simp [emits, fallingEdge_iff.mpr hb]
  case level hb => simp [emits, mt fallingEdge_iff.mp hb]
  case wait hp | take hp => simp [emits, hp]
  case timeOut hp hd => simp [emits, hp, hd]
  case rst => exact absurd rfl hr
  all_goals simp [emits]

theorem emits_length_le_one (i : Instr) (s : State) : (emits i s).length ≤ 1 := by
  cases i <;> grind [emits]

theorem emits_count_isBuzzSet (i : Instr) (s : State) :
    (emits i s).countP Event.isBuzzSet = if i = .tdrv then 1 else 0 := by
  cases i <;> simp [emits, apply_ite (List.countP _), Event.isBuzzSet]

/-- Settles O51: what an operation appends is one event at most, a `BuzzSet` for `TDRV` alone. -/
theorem strobeFiresOncePerTdrv : Obligations.StrobeFiresOncePerTdrv := by
  intro i s t h hr
  have trace := trace_exec h hr
  refine ⟨⟨emits i s, trace, emits_length_le_one i s⟩, ?_⟩
  rw [buzSetCount, trace, List.countP_append, emits_count_isBuzzSet, buzSetCount]

/-! ### What is no register -/

theorem btn_exec {i : Instr} {s t : State} (hi : ∀ b, i ≠ .btn b) (h : exec i s = .next t) :
    t.btn = s.btn := by
  cases does_of_exec h
  case edge b _ | level b _ => exact absurd rfl (hi b)
  all_goals rfl

theorem encResult_exec {i : Instr} {s t : State} (hi : ∀ d, i ≠ .enc d) (hr : i ≠ .rst)
    (h : exec i s = .next t) : t.encResult = s.encResult := by
  cases does_of_exec h
  case enc d => exact absurd rfl (hi d)
  case rst => exact absurd rfl hr
  all_goals rfl

/-- Settles O12: the line and the result have one writer each beside reset, and the setting none. -/
theorem operationsKeepWhatIsNoRegister : Obligations.OperationsKeepWhatIsNoRegister := by
  intro i s t h
  refine ⟨?_, fun hi => btn_exec hi h, ?_, fun hi hr => encResult_exec hi hr h,
    settingKept_exec h⟩
  · rintro b rfl
    obtain rfl := Host.Outcome.next.inj h
    rfl
  · rintro rfl
    obtain rfl := Host.Outcome.next.inj h
    rfl

/-- Settles O48: serving a request and the operation it asks for keep the setting. -/
theorem tablesAreImmutable : Obligations.TablesAreImmutable := by
  intro s t h
  obtain ⟨-, -, i, -, -, hi⟩ := step_next h
  obtain ⟨params, setup, -⟩ := settingKept_exec hi
  exact ⟨params.trans s.consume_params, setup.trans s.consume_setupOk⟩

/-! ### Held operations -/

theorem enabled_waitt_iff (s : State) :
    enabled .waitt s = true ↔ s.pend = true ∨ s.tmrT ≤ s.now := by
  simp [enabled, programOpEnabled]

/-- Settles O8: `enabled` names its conditions, and a held operation answers the state it found. -/
theorem heldOperationsChangeNothing : Obligations.HeldOperationsChangeNothing := fun s =>
  ⟨by simp [enabled, programOpEnabled], Iff.rfl, enabled_waitt_iff s, enabled_twake_iff s,
    dueC_iff s, dueD_iff s, enabled_tick_iff s, fun _ => exec_of_held⟩

theorem contextFor_of_mem_writers_now : ∀ i ∈ Reg.now.writers, contextFor i = .env := by decide

theorem contextFor_of_mem_writers_pend :
    ∀ i ∈ Reg.pend.writers, contextFor i = .env ∨ contextFor i = .agent .toneSelector := by decide

/-- Time is the environment's alone (R113). -/
theorem now_exec {i : Instr} {s t : State} (hi : contextFor i ≠ .env) (h : exec i s = .next t) :
    t.now = s.now :=
  onlyWritersChangeARegister .now i s t h (by rintro rfl; exact hi rfl)
    (mt (contextFor_of_mem_writers_now i) hi)

/-- The channel is the environment's and agent `T`'s (R75). -/
theorem pend_exec {i : Instr} {s t : State} (henv : contextFor i ≠ .env)
    (hT : contextFor i ≠ .agent .toneSelector) (h : exec i s = .next t) : t.pend = s.pend :=
  onlyWritersChangeARegister .pend i s t h (by rintro rfl; exact henv rfl)
    fun hw => (contextFor_of_mem_writers_pend i hw).elim henv hT

theorem State.dueT_congr {s t : State} (hd : t.tmrT = s.tmrT) (hn : t.now = s.now) :
    t.dueT = s.dueT := by rw [State.dueT, State.dueT, hd, hn]

theorem State.dueC_congr {s t : State} (hd : t.tmrC = s.tmrC) (hn : t.now = s.now) :
    t.dueC = s.dueC := by rw [State.dueC, State.dueC, hd, hn]

theorem State.dueD_congr {s t : State} (hd : t.tmrD = s.tmrD) (hn : t.now = s.now) :
    t.dueD = s.dueD := by rw [State.dueD, State.dueD, hd, hn]

/-- Settles O9: another agent changes neither time nor the deadline an operation waits for, and the
signal that agent `T` waits for is posted by the environment alone. -/
theorem otherAgentsNeverLiftAHold : Obligations.OtherAgentsNeverLiftAHold := by
  intro i j s t hi henv hij held h
  have hnow := now_exec henv h
  have hrst : j ≠ .rst := by rintro rfl; exact henv rfl
  simp only [List.mem_cons, List.not_mem_nil, or_false] at hi
  rcases hi with rfl | rfl | rfl | rfl | rfl <;>
    obtain ⟨-, hdeadline, -⟩ := exec_keeps_agent hij hrst h
  · exact (pend_exec henv hij h).trans held
  · exact (congrArg₂ or (pend_exec henv hij h) (State.dueT_congr hdeadline hnow)).trans held
  · exact (State.dueT_congr hdeadline hnow).trans held
  · exact (State.dueC_congr hdeadline hnow).trans held
  · exact (State.dueD_congr hdeadline hnow).trans held

end Sys2Proof.Machine

/-! PROOFS. Encodings and assembly text (spec/30_encoding.md), what a step executes
(spec/60_exceptions.md R135), and who may execute what (R127, R130). -/

namespace Sys2Proof.Machine

/-! ### Words -/

/-- Settles O1: an operation is one word, and the decoder inverts it. -/
theorem decodeOfEncode : Obligations.DecodeOfEncode := by
  intro i _ rest
  rw [encode, List.singleton_append, decodeBytes, decodeWord_encodeWord]

/-- Settles O4: the words are those of the operations, and the last lies in the top range. -/
theorem opcodeMapSampleWords : Obligations.OpcodeMapSampleWords :=
  ⟨decodeWord_encodeWord (.enc 9), decodeWord_encodeWord .sig, decodeWord_encodeWord .tdrv,
    decodeWord_encodeWord .cinc, decodeWord_encodeWord .dhld, decodeWord_encodeWord .tick,
    decodeWord_encodeWord .rst, (unassigned_iff_decodeWord _).mp (by unfold unassigned; decide)⟩

/-! ### Assembly text -/

/-- The tokens of an operation's text name it: the mnemonics are distinct words, and an operand is a
decimal number or a letter (R68). -/
theorem readOp_tokens (i : Instr) : readOp (tokensFrom (writeOp i).toList []) = some i := by
  cases i with
  | enc d => revert d; decide
  | btn b => cases b <;> decide
  | dld p | den p => cases p <;> decide
  | _ => decide

theorem agentTag_mnemonicText (m : Mnemonic) : agentTag (mnemonicText m).toList = none := by
  cases m <;> decide

/-- A token that spells a mnemonic is no agent's tag. -/
theorem agentTag_of_readOp {tok : List Char} {toks : List (List Char)} {i : Instr}
    (h : readOp (tok :: toks) = some i) : agentTag tok = none := by
  rw [readOp] at h
  cases hm : mnemonicOf tok with
  | none => simp [hm] at h
  | some m =>
    have spelled := List.find?_some hm
    rw [← eq_of_beq spelled]
    exact agentTag_mnemonicText m

theorem readLine_writeOp (i : Instr) : readLine (writeOp i) = some ⟨none, i⟩ := by
  have hop := readOp_tokens i
  rw [readLine]
  cases htok : tokensFrom (writeOp i).toList [] with
  | nil => simp [htok, readOp] at hop
  | cons tok toks =>
    rw [htok] at hop
    simp [agentTag_of_readOp hop, hop]

/-- The text of an agent's tag, with the space after it (R68). -/
def tagText : Context → String
  | .agent .toneSelector => "T: "
  | .agent .counter => "C: "
  | .agent .display => "D: "
  | .env => "ENV: "
  | .handler => ""

theorem writeLine_eq_tagText_append (c : Context) (i : Instr) :
    writeLine ⟨some c, i⟩ = tagText c ++ writeOp i := by
  cases c with
  | agent a => cases a <;> rfl
  | env => rfl
  | handler => exact String.empty_append.symm

/-- A tag in front of a text is a token of its own, so the reader finds the agent and goes on with
the rest. -/
theorem readLine_tagText_append {c : Context} (hc : c ≠ .handler) (text : String) :
    readLine (tagText c ++ text) =
      (readOp (tokensFrom text.toList [])).map fun i => ⟨some c, i⟩ := by
  rcases c with ⟨_ | _ | _⟩ | _ | _
  case handler => exact absurd rfl hc
  all_goals simp [readLine, tagText, tokensFrom, flushToken, agentTag]

theorem contextFor_ne_handler (i : Instr) : contextFor i ≠ .handler := by
  cases i <;> simp [contextFor]

/-- Settles O5: the tokens of the text name the operation, and a tag in front is read before
them. -/
theorem assemblyTextRoundTrip : Obligations.AssemblyTextRoundTrip := fun i =>
  ⟨readLine_writeOp i, by
    rw [writeLine_eq_tagText_append, readLine_tagText_append (contextFor_ne_handler i),
      readOp_tokens, Option.map_some]⟩

/-! ### The step -/

theorem nextRequest_of_cons {s : State} {r : Request} {rest : List Request}
    (hq : s.queue = r :: rest) : s.nextRequest = r := by
  rw [State.nextRequest, hq]

theorem fetched_of_cons {s : State} {r : Request} {rest : List Request}
    (hq : s.queue = r :: rest) : s.fetched = requested s r := by
  rw [State.fetched, nextRequest_of_cons hq]

/-- Settles O6: a step executes the decoded word, and the queue's head, or a free choice where it is
empty, says which word that is. -/
theorem stepExecutesDecodedWord : Obligations.StepExecutesDecodedWord := by
  refine ⟨fun s i => step_of_decode, fun s r rest hq => ⟨s.consume_cons hq, ?_⟩, fun s hq =>
    ⟨s.consume_nil hq, by rw [State.nextRequest, hq]⟩⟩
  rw [fetched_of_cons hq]
  exact ⟨fun _ hr => hr ▸ rfl, fun hr => hr ▸ rfl, fun _ hr => hr ▸ rfl, fun _ _ hr => hr ▸ rfl⟩

/-! ### Contexts -/

/-- No program holds an `ENC`: it is no agent's operation (R66). -/
theorem decode_fetchWord_ne_enc (a : AgentId) (s : State) (d : DigitCode) :
    decodeWord (fetchWord a s) ≠ .ok (.enc d) := by
  intro h
  rw [decode_fetchWord] at h
  have own := contextFor_opAt a s
  rw [Except.ok.inj h] at own
  cases own

/-- Settles O15: `ENC d` reads its entry and writes nothing but the result. -/
theorem encGivesTheTableEntry : Obligations.EncGivesTheTableEntry :=
  ⟨fun d => decodeWord_encodeWord (.enc d), decode_fetchWord_ne_enc, fun _ _ => ⟨_, rfl, rfl, rfl⟩⟩

theorem mayExecute_handler_iff (i : Instr) : mayExecute .handler i = true ↔ i = .sig := by
  cases i <;> simp [mayExecute]

/-- What an agent may execute is its own, but for `ENC` (R64, R130). -/
theorem contextFor_of_mayExecute_agent {a : AgentId} {i : Instr}
    (h : mayExecute (.agent a) i = true) : contextFor i = .agent a ∨ ∃ d, i = .enc d := by
  by_cases henc : ∃ d, i = .enc d
  · exact .inr henc
  · have hsig : i ≠ .sig := by rintro rfl; cases h
    exact .inl ((onlyIn_contextFor (fun d hd => henc ⟨d, hd⟩) hsig _).mp h).symm

theorem contextRefusal_cases (c : Context) (i : Instr) :
    contextRefusal c i = .ctx ∨
      (contextRefusal c i = .multiWait ∧ (i = .wait ∨ i = .waitt) ∧ ∃ a, c = .agent a) := by
  cases c with
  | agent a => cases i <;> simp [contextRefusal, waitsOnChannel]
  | env | handler => exact .inl rfl

/-- Settles O43: `mayExecute` decides, and the refusal of the other pairs is `contextRefusal`. -/
theorem wrongContextIsRefused : Obligations.WrongContextIsRefused := by
  refine ⟨mayExecute_handler_iff, fun _ _ _ => mayExecute_of_fetchWord,
    fun _ _ => contextFor_of_mayExecute_agent, fun s c i hs hq hm => ?_⟩
  rw [step_of_asked_not_mayExecute hs hq hm]
  simpa using contextRefusal_cases c i

end Sys2Proof.Machine

/-! PROOFS. The ranges of the registers (spec/10_state.md R29, spec/93_implementation_defined.md
U13), which every operation keeps, and the buzzer's ports (R33, U5). -/

namespace Sys2Proof.Machine

/-! ### The ranges -/

theorem digitOf_le_nine (p : Position) (v : Fin 100) : (digitOf p v).val ≤ 9 := by
  cases p
  · exact tensDigit_le_nine v
  · exact unitsDigit_le_nine v

theorem rangesInv_consume {s : State} : RangesInv s.consume ↔ RangesInv s := by simp [RangesInv]

theorem rangesInv_presentTone {s : State} (h : RangesInv s) :
    RangesInv (s.presentTone (toneAt s.tidx) s.params.duty) := by
  obtain ⟨hdgt, -, hseg⟩ := h
  exact ⟨hdgt, fun _ => ⟨⟨s.tidx, rfl⟩, rfl⟩, hseg⟩

theorem rangesInv_showDigit {s : State} {d : DigitCode} (h : RangesInv s) (hd : d.val ≤ 9) :
    RangesInv (s.showDigit d) := by
  obtain ⟨-, hbuz, -⟩ := h
  exact ⟨hd, hbuz, .inr ⟨d, hd, rfl⟩⟩

theorem rangesInv_resetWith (p : Params) (level : Bool) : RangesInv (State.resetWith p level) := by
  simp [RangesInv]

/-- Only `TDRV`, `DLD` and `RST` write a register of these ranges, each with a value in it. -/
theorem rangesInv_exec {i : Instr} {s t : State} (h : RangesInv s) (ht : exec i s = .next t) :
    RangesInv t := by
  cases does_of_exec ht
  case tdrv => exact rangesInv_presentTone (s := s) h
  case dld p => exact rangesInv_showDigit (s := s.readCounter p) h (digitOf_le_nine p _)
  case rst => exact rangesInv_resetWith s.params s.btn
  all_goals exact h

/-- Outside the ranges the operation that a step would execute is refused (U13; log 14). -/
theorem step_of_not_ranges {s : State} {i : Instr} (hs : s.setupOk = true)
    (hi : decodeWord s.fetched.2 = .ok i) (hm : mayExecute s.fetched.1 i = true)
    (hr : ¬ RangesInv s) : step s = .refused .outOfRange := by
  rw [step, if_pos hs, hi]
  exact (if_pos hm).trans (if_neg hr)

/-- Settles O52: a step looks at the ranges before it executes, and no operation leaves them. -/
theorem rangesAreKept : Obligations.RangesAreKept := by
  refine ⟨fun s t h => ?_, fun i s t => rangesInv_exec, fun s i => step_of_not_ranges⟩
  obtain ⟨-, hr, i, -, -, hi⟩ := step_next h
  exact ⟨hr, rangesInv_exec (rangesInv_consume.mpr hr) hi⟩

/-! ### The buzzer's ports -/

theorem buzzer_of_undriven {α : Type} {s : State} (hs : s.setupOk = true) (hr : RangesInv s)
    (hv : s.buzv = false) (x : α) : s.buzzer x = .fault .buzzerUndriven := by
  rw [State.buzzer, port_of_ranges hs hr, hv]
  rfl

theorem buzzer_of_driven {α : Type} {s : State} (hs : s.setupOk = true) (hr : RangesInv s)
    (hv : s.buzv = true) (x : α) : s.buzzer x = .shows x := by
  rw [State.buzzer, port_of_ranges hs hr, hv]
  rfl

/-- What the buzzer's ports carry beside the latch itself: whether it is driven, the setup's outcome
and the ranges. -/
theorem buzzer_congr {α : Type} {s t : State} (hs : t.setupOk = s.setupOk)
    (hr : RangesInv t ↔ RangesInv s) (hv : t.buzv = s.buzv) (x : α) : t.buzzer x = s.buzzer x := by
  simp only [State.buzzer, State.port, hs, hr, hv]

theorem buzzerPins_tdrv {s t : State} (hs : s.setupOk = true) (hr : RangesInv s)
    (h : exec .tdrv s = .next t) :
    buzFreqPin t = .shows (toneAt s.tidx) ∧ buzDutyPin t = .shows s.params.duty := by
  have driven : t.buzv = true := by
    obtain rfl := Host.Outcome.next.inj h
    rfl
  obtain ⟨-, hsetup, -⟩ := settingKept_exec h
  have ports {α : Type} (x : α) : t.buzzer x = .shows x :=
    buzzer_of_driven (hsetup.trans hs) (rangesInv_exec hr h) driven x
  obtain rfl := Host.Outcome.next.inj h
  exact ⟨ports _, ports _⟩

/-- The latches and their guard are `TDRV`'s (R15), so nothing else but reset changes the ports. -/
theorem buzzerPins_exec {i : Instr} {s t : State} (hr : RangesInv s) (h : exec i s = .next t)
    (hi : i ≠ .tdrv) (hrst : i ≠ .rst) :
    buzFreqPin t = buzFreqPin s ∧ buzDutyPin t = buzDutyPin s := by
  have kept {r : Reg} (hw : r.writers = [.tdrv]) : r.same s t :=
    onlyWritersChangeARegister r i s t h hrst (by simpa [hw] using hi)
  have hbuzf : t.buzf = s.buzf := kept (r := .buzf) rfl
  have hbuzd : t.buzd = s.buzd := kept (r := .buzd) rfl
  obtain ⟨-, hsetup, -⟩ := settingKept_exec h
  have ports {α : Type} (x : α) : t.buzzer x = s.buzzer x :=
    buzzer_congr hsetup (iff_of_true (rangesInv_exec hr h) hr) (kept (r := .buzv) rfl) x
  rw [buzFreqPin, buzDutyPin, hbuzf, hbuzd]
  exact ⟨ports s.buzf, ports s.buzd⟩

/-- Settles O50: the guard, the two refusals, and what `TDRV` alone changes. -/
theorem buzzerPortsAreGuarded : Obligations.BuzzerPortsAreGuarded := by
  refine ⟨fun s hs hr hv => ⟨buzzer_of_undriven hs hr hv _, buzzer_of_undriven hs hr hv _⟩,
    fun s hs hr => ⟨_, rfl, buzzerPins_tdrv hs hr rfl⟩, fun s hs hr => ?_, fun s hs => ?_,
    fun i s t => buzzerPins_exec⟩
  · exact ⟨port_of_not_ranges hs hr _, port_of_not_ranges hs hr _, port_of_not_ranges hs hr _,
      port_of_not_ranges hs hr _⟩
  · exact ⟨port_of_failed hs _, port_of_failed hs _, port_of_failed hs _, port_of_failed hs _⟩

end Sys2Proof.Machine

/-! PROOFS. The moves of the block's own runs (spec/60_exceptions.md R135) and the invariants of the
counter (spec/43_counter.md R99, R100): an invariant speaks of one agent, and a move is either the
agent's own, at its phase, or leaves the agent's registers as they are. -/

namespace Sys2Proof.Machine

/-! ### Moves of an agent and of others -/

theorem opAt_consume (a : AgentId) (s : State) : opAt a s.consume = opAt a s := by
  cases a <;> simp [opAt]

/-- A move of the block is the operation at an agent's phase, or an operation of another context. -/
theorem move_of_step (a : AgentId) {s t : State} (hs : s.onlyMoves) (h : step s = .next t) :
    (s.nextOp = some (opAt a s) ∧ exec (opAt a s.consume) s.consume = .next t) ∨
      ∃ i, s.nextOp = some i ∧ contextFor i ≠ .agent a ∧ i ≠ .rst ∧
        exec i s.consume = .next t := by
  obtain ⟨m, hm⟩ := nextRequest_of_onlyMoves hs
  obtain ⟨hok, hr, -⟩ := step_next h
  rw [step_of_move hok hr hm] at h
  rw [nextOp_of_move hm, opAt_consume]
  cases m with
  | btn b | tick => exact .inr ⟨_, rfl, by simp [moveOp, contextFor], by simp [moveOp], h⟩
  | agent b =>
    have own := contextFor_opAt b s
    by_cases hb : b = a
    · exact .inl (hb ▸ ⟨rfl, h⟩)
    · exact .inr ⟨opAt b s, rfl, fun hc => hb (Context.agent.inj (own.symm.trans hc)),
        fun hrst => Context.noConfusion ((congrArg contextFor hrst).symm.trans own), h⟩

/-- An agent's operation is executed by a move of the agent at its phase alone. -/
theorem opAt_of_nextOp {a : AgentId} {i : Instr} {s t : State} (hs : s.onlyMoves)
    (h : step s = .next t) (hi : contextFor i = .agent a) (hop : s.nextOp = some i) :
    opAt a s = i ∧ exec i s.consume = .next t := by
  obtain ⟨hown, ht⟩ | ⟨j, hj, hother, -⟩ := move_of_step a hs h
  · obtain rfl := Option.some.inj (hop.symm.trans hown)
    exact ⟨rfl, opAt_consume a s ▸ ht⟩
  · obtain rfl := Option.some.inj (hop.symm.trans hj)
    exact absurd hi hother

/-- The registers that an agent alone writes (R15). -/
def ownRegs : AgentId → List Reg
  | .toneSelector => [.tidx, .got, .buzf, .buzd, .buzv, .tmrT, .pcT]
  | .counter => [.cnt, .tmrC, .pcC]
  | .display => [.val, .dgt, .seg, .dig, .tmrD, .pcD]

theorem contextFor_of_mem_writers {a : AgentId} :
    ∀ r ∈ ownRegs a, ∀ i ∈ r.writers, contextFor i = .agent a := by
  cases a <;> decide

/-- An operation of another context leaves an agent's registers. -/
theorem same_of_foreign {a : AgentId} {r : Reg} {i : Instr} {s t : State} (hown : r ∈ ownRegs a)
    (hi : contextFor i ≠ .agent a) (hr : i ≠ .rst) (h : exec i s = .next t) : r.same s t :=
  onlyWritersChangeARegister r i s t h hr fun hw => hi (contextFor_of_mem_writers r hown i hw)

/-- Under `MAXPROG` time passes only while every agent is held (R113, R115). -/
theorem now_exec_of_maxProg {i : Instr} {s t : State} (hm : s.params.maxProg = true)
    (hr : i ≠ .rst) (h : exec i s = .next t) :
    t.now = s.now ∨ (AllAgentsHeld s ∧ t.now = s.now + 1) := by
  cases does_of_exec h
  case tick he =>
    obtain free | held := (enabled_tick_iff s).mp he
    · rw [hm] at free
      cases free
    · exact .inr ⟨held, rfl⟩
  case rst => exact absurd rfl hr
  all_goals exact .inl rfl

theorem params_step {s t : State} (h : step s = .next t) : t.params = s.params := by
  obtain ⟨hparams, -⟩ := tablesAreImmutable s t h
  exact hparams

theorem cycle_eq_add_one {n : Nat} (x : Fin (n + 1)) : cycle x = x + 1 := by
  ext
  simp [Fin.val_add]

/-! ### Counts over the trace -/

theorem emits_count_isInc (i : Instr) (s : State) :
    (emits i s).countP Event.isInc = if i = .cinc then 1 else 0 := by
  cases i <;> simp [emits, apply_ite (List.countP _), Event.isInc]

theorem incCount_exec {i : Instr} {s t : State} (h : exec i s = .next t) (hr : i ≠ .rst) :
    incCount t = incCount s + if i = .cinc then 1 else 0 := by
  rw [incCount, trace_exec h hr, List.countP_append, emits_count_isInc, incCount]

theorem incCount_consume (s : State) : incCount s.consume = incCount s := by simp [incCount]

theorem incCount_of_foreign {i : Instr} {s t : State} (hi : contextFor i ≠ .agent .counter)
    (hr : i ≠ .rst) (h : exec i s = .next t) : incCount t = incCount s := by
  have hcinc : i ≠ .cinc := by rintro rfl; exact hi rfl
  simp [incCount_exec h hr, hcinc]

/-! ### The counter's value -/

theorem countInv_exec {i : Instr} {s t : State} (hinv : CountInv s) (h : exec i s = .next t) :
    CountInv t := by
  by_cases hr : i = .rst
  · subst hr
    obtain rfl := Host.Outcome.next.inj h
    rfl
  · have hinc := incCount_exec h hr
    unfold CountInv at *
    by_cases hi : i = .cinc
    · subst hi
      obtain rfl := Host.Outcome.next.inj h
      rw [hinc]
      simp only [State.nextC_cnt, State.setCount_cnt, cycle_val, if_true]
      omega
    · have hcnt : t.cnt = s.cnt :=
        onlyWritersChangeARegister .cnt i s t h hr (by simpa [Reg.writers] using hi)
      simpa [hinc, hi, hcnt] using hinv

/-- Settles O53: `CINC` counts and is counted, and nothing else but reset does either. -/
theorem counterMatchesItsTrace : Obligations.CounterMatchesItsTrace := by
  intro s t hinv h
  obtain ⟨-, -, i, -, -, hi⟩ := step_next h
  exact countInv_exec (by simpa [CountInv, incCount_consume] using hinv) hi

/-! ### The pace of the counter -/

/-- What agent `C` can do at its phase. -/
inductive CounterMove (s : State) : State → Prop
  | inc (pc : s.pcC = 0) : CounterMove s (s.setCount (cycle s.cnt)).nextC
  | sleep (pc : s.pcC = 1) : CounterMove s (s.armC tCnt).nextC
  | wake (pc : s.pcC = 2) (h : s.tmrC ≤ s.now) : CounterMove s s.nextC
  | held (h : agentEnabled .counter s = false) : CounterMove s s

theorem counterMove_of_exec {s t : State} (h : exec (opC s.pcC) s = .next t) : CounterMove s t := by
  cases he : agentEnabled .counter s
  · obtain ⟨-, kept, -⟩ := exec_own (a := .counter) h
    rw [kept he]
    exact .held he
  · rw [agentEnabled_eq, opAt] at he
    revert h he
    unfold opC
    split <;> intro h he <;> cases does_of_exec h
    case h_1.cinc pc => exact .inc pc
    case h_2.cslp pc => exact .sleep pc
    case h_3.cwake pc due => exact .wake pc due
    all_goals exact absurd he (Bool.eq_false_iff.mp ‹_›)

@[simp] theorem incCount_nextC (s : State) : incCount s.nextC = incCount s := rfl

@[simp] theorem incCount_armC (s : State) (n : Nat) : incCount (s.armC n) = incCount s := rfl

@[simp] theorem incCount_setCount (s : State) (v : Fin 100) :
    incCount (s.setCount v) = incCount s + 1 := by simp [incCount, Event.isInc]

theorem counterPaceInv_move {s t : State} (hinv : CounterPaceInv s) (h : CounterMove s t) :
    CounterPaceInv t := by
  obtain ⟨hinc, hsleep, hwake⟩ := hinv
  cases h with
  | inc pc => simpa [CounterPaceInv, cycle_eq_add_one, pc, Nat.mul_add] using hinc pc
  | sleep pc => simpa [CounterPaceInv, cycle_eq_add_one, pc, tCnt] using hsleep pc
  | wake pc due => simpa [CounterPaceInv, cycle_eq_add_one, pc] using (hwake pc).trans due
  | held => exact ⟨hinc, hsleep, hwake⟩

theorem counterExactInv_move {s t : State} (hinv : CounterExactInv s) (h : CounterMove s t) :
    CounterExactInv t := by
  obtain ⟨hinc, hsleep, hwake⟩ := hinv
  cases h with
  | inc pc => simpa [CounterExactInv, cycle_eq_add_one, pc, Nat.mul_add] using hinc pc
  | sleep pc => simpa [CounterExactInv, cycle_eq_add_one, pc, tCnt] using hsleep pc
  | wake pc due =>
    obtain ⟨deadline, late⟩ := hwake pc
    simpa [CounterExactInv, cycle_eq_add_one, pc, deadline] using late.antisymm due
  | held => exact ⟨hinc, hsleep, hwake⟩

theorem counterPaceInv_of_foreign {i : Instr} {s t : State} (hinv : CounterPaceInv s)
    (hi : contextFor i ≠ .agent .counter) (hr : i ≠ .rst) (h : exec i s = .next t) :
    CounterPaceInv t := by
  have hpc : t.pcC = s.pcC := same_of_foreign (r := .pcC) (by decide) hi hr h
  obtain ⟨-, htmr, hnow⟩ := exec_keeps_agent hi hr h
  obtain ⟨hinc, hsleep, hwake⟩ := hinv
  simp only [CounterPaceInv, hpc, incCount_of_foreign hi hr h,
    show t.tmrC = s.tmrC from htmr]
  exact ⟨fun pc => (hinc pc).trans hnow, fun pc => (hsleep pc).trans (by omega), hwake⟩

theorem counterExactInv_of_foreign {i : Instr} {s t : State} (hinv : CounterExactInv s)
    (hm : s.params.maxProg = true) (hi : contextFor i ≠ .agent .counter) (hr : i ≠ .rst)
    (h : exec i s = .next t) : CounterExactInv t := by
  have hpc : t.pcC = s.pcC := same_of_foreign (r := .pcC) (by decide) hi hr h
  have htmr : t.tmrC = s.tmrC := same_of_foreign (r := .tmrC) (by decide) hi hr h
  simp only [CounterExactInv, hpc, incCount_of_foreign hi hr h, htmr]
  obtain hnow | ⟨⟨-, ⟨pc, early⟩, -⟩, hnow⟩ := now_exec_of_maxProg hm hr h
  · rwa [hnow]
  · obtain ⟨-, -, hwake⟩ := hinv
    obtain ⟨deadline, -⟩ := hwake pc
    exact ⟨by simp [pc], by simp [pc], fun _ => ⟨deadline, by omega⟩⟩

theorem counterPaceInv_consume {s : State} : CounterPaceInv s.consume ↔ CounterPaceInv s := by
  simp [CounterPaceInv, incCount_consume]

theorem counterExactInv_consume {s : State} : CounterExactInv s.consume ↔ CounterExactInv s := by
  simp [CounterExactInv, incCount_consume]

/-- A move that is a `CINC` stands at phase 0 and adds one increment. -/
theorem cinc_of_nextOp {s t : State} (hs : s.onlyMoves) (h : step s = .next t)
    (hop : s.nextOp = some .cinc) : s.pcC = 0 ∧ incCount t - 1 = incCount s := by
  obtain ⟨hat, ht⟩ := opAt_of_nextOp (a := .counter) hs h rfl hop
  exact ⟨opC_injective hat, by simp [incCount_exec ht (by simp), incCount_consume]⟩

/-- Settles O56: each phase of agent `C` hands its bound to the next, and time does not go back. -/
theorem incrementsAreNeverEarly : Obligations.IncrementsAreNeverEarly := by
  intro s t hs hinv h
  refine ⟨onlyMoves_step hs h, ?_, fun hop => ?_⟩
  · have hc := counterPaceInv_consume.mpr hinv
    obtain ⟨-, ht⟩ | ⟨i, -, hi, hr, ht⟩ := move_of_step .counter hs h
    · exact counterPaceInv_move hc (counterMove_of_exec ht)
    · exact counterPaceInv_of_foreign hc hi hr ht
  · obtain ⟨pc, hcount⟩ := cinc_of_nextOp hs h hop
    obtain ⟨hinc, -⟩ := hinv
    rw [hcount]
    exact hinc pc

/-- Settles O57: each phase of agent `C` hands its tick to the next, and time waits for it. -/
theorem incrementsAreExactUnderMaxprog : Obligations.IncrementsAreExactUnderMaxprog := by
  intro s t hs hm hinv h
  refine ⟨onlyMoves_step hs h, params_step h, ?_, fun hop => ?_⟩
  · have hc := counterExactInv_consume.mpr hinv
    obtain ⟨-, ht⟩ | ⟨i, -, hi, hr, ht⟩ := move_of_step .counter hs h
    · exact counterExactInv_move hc (counterMove_of_exec ht)
    · exact counterExactInv_of_foreign hc (by simpa using hm) hi hr ht
  · obtain ⟨pc, hcount⟩ := cinc_of_nextOp hs h hop
    obtain ⟨hinc, -⟩ := hinv
    rw [hcount]
    exact hinc pc

end Sys2Proof.Machine

/-! PROOFS. The invariants of the tone selector (spec/42_tone_selector.md R91, R92, R94). -/

namespace Sys2Proof.Machine

/-! ### What agent `T` can do -/

/-- What agent `T` can do at its phase. -/
inductive ToneMove (s : State) : State → Prop
  | arm (pc : s.pcT = 0) : ToneMove s (s.armT s.params.tPoll.ticks).nextT
  | take (pc : s.pcT = 1) (h : s.pend = true) : ToneMove s s.takeSignal.nextT
  | timeOut (pc : s.pcT = 1) (hp : s.pend = false) (due : s.tmrT ≤ s.now) :
      ToneMove s s.timeOut.nextT
  | advance (pc : s.pcT = 2) (h : s.got = true) :
      ToneMove s { s with tidx := cycle s.tidx }.nextT
  | stay (pc : s.pcT = 2) (h : s.got = false) : ToneMove s s.nextT
  | drive (pc : s.pcT = 3) : ToneMove s (s.presentTone (toneAt s.tidx) s.params.duty).nextT
  | sleep (pc : s.pcT = 4) : ToneMove s (s.armT s.params.tTSleep).nextT
  | wake (pc : s.pcT = 5) : ToneMove s s.nextT
  | held (h : agentEnabled .toneSelector s = false) : ToneMove s s

theorem toneMove_of_exec {s t : State} (h : exec (opT s.pcT) s = .next t) : ToneMove s t := by
  cases he : agentEnabled .toneSelector s
  · obtain ⟨-, kept, -⟩ := exec_own (a := .toneSelector) h
    rw [kept he]
    exact .held he
  · rw [agentEnabled_eq, opAt] at he
    revert h he
    unfold opT
    split <;> intro h he <;> cases does_of_exec h
    case h_1.tarm pc => exact .arm pc
    case h_2.take pc hp => exact .take pc hp
    case h_2.timeOut pc hp due => exact .timeOut pc hp due
    case h_3.advance pc got => exact .advance pc got
    case h_3.stay pc got => exact .stay pc got
    case h_4.tdrv pc => exact .drive pc
    case h_5.tslp pc => exact .sleep pc
    case h_6.twake pc _ => exact .wake pc
    all_goals exact absurd he (Bool.eq_false_iff.mp ‹_›)

/-! ### Consumed signals -/

@[simp] theorem takeCount_nextT (s : State) : takeCount s.nextT = takeCount s := rfl

@[simp] theorem takeCount_armT (s : State) (n : Nat) : takeCount (s.armT n) = takeCount s := rfl

@[simp] theorem takeCount_timeOut (s : State) : takeCount s.timeOut = takeCount s := by
  simp [takeCount, Event.isTake]

@[simp] theorem takeCount_presentTone (s : State) (f : Hertz) (d : Nat) :
    takeCount (s.presentTone f d) = takeCount s := by simp [takeCount, Event.isTake]

theorem takeCount_consume (s : State) : takeCount s.consume = takeCount s := by simp [takeCount]

theorem takeCount_of_foreign {i : Instr} {s t : State} (hi : contextFor i ≠ .agent .toneSelector)
    (hr : i ≠ .rst) (h : exec i s = .next t) : takeCount t = takeCount s := by
  have quiet : i ∉ [Instr.wait, .waitt, .rst] := by
    simp only [List.mem_cons, List.not_mem_nil, or_false]
    rintro (rfl | rfl | rfl)
    · exact hi rfl
    · exact hi rfl
    · exact hr rfl
  obtain ⟨-, takes, -⟩ := postsOnly_exec quiet h
  exact takes

/-! ### The index and the driven tone -/

theorem toneInv_consume {s : State} : ToneInv s.consume ↔ ToneInv s := by
  simp [ToneInv, takeCount_consume]

theorem toneInv_move {s t : State} (hinv : ToneInv s) (h : ToneMove s t) : ToneInv t := by
  obtain ⟨pending, counted, tone, driven⟩ := hinv
  cases h
  case arm pc | timeOut pc _ _ | wake pc =>
    simpa [ToneInv, pc, cycle_eq_add_one] using
      And.intro (counted (by simp [pc])) (tone (by simp [pc]))
  case take pc _ =>
    have index := counted (by simp [pc])
    simpa [ToneInv, pc, cycle_eq_add_one, takeCount_takeSignal, index] using tone (by simp [pc])
  case advance pc got =>
    simpa [ToneInv, takeCount, pc, cycle_eq_add_one, Fin.val_add] using pending pc got
  case stay pc got => simpa [ToneInv, pc, cycle_eq_add_one] using counted (by simp [got])
  case drive pc => simpa [ToneInv, pc, cycle_eq_add_one] using counted (by simp [pc])
  case sleep pc =>
    simpa [ToneInv, pc, cycle_eq_add_one] using
      ⟨counted (by simp [pc]), tone (by simp [pc]), driven (by simp [pc])⟩
  case held => exact ⟨pending, counted, tone, driven⟩

theorem toneInv_of_foreign {i : Instr} {s t : State} (hinv : ToneInv s)
    (hi : contextFor i ≠ .agent .toneSelector) (hr : i ≠ .rst) (h : exec i s = .next t) :
    ToneInv t := by
  have kept {r : Reg} (hown : r ∈ ownRegs .toneSelector) : r.same s t :=
    same_of_foreign hown hi hr h
  have hpc : t.pcT = s.pcT := kept (r := .pcT) (by decide)
  have hgot : t.got = s.got := kept (r := .got) (by decide)
  have htidx : t.tidx = s.tidx := kept (r := .tidx) (by decide)
  have hbuzv : t.buzv = s.buzv := kept (r := .buzv) (by decide)
  have hbuzf : t.buzf = s.buzf := kept (r := .buzf) (by decide)
  rw [ToneInv, takeCount_of_foreign hi hr h, hpc, hgot, htidx, hbuzv, hbuzf]
  exact hinv

/-- Settles O54: `WAITT` takes, `TADV` counts what was taken, `TDRV` presents the tone counted. -/
theorem toneFollowsTheTakenSignals : Obligations.ToneFollowsTheTakenSignals := by
  intro s t hs hinv h
  refine ⟨onlyMoves_step hs h, ?_⟩
  have hc := toneInv_consume.mpr hinv
  obtain ⟨-, ht⟩ | ⟨i, -, hi, hr, ht⟩ := move_of_step .toneSelector hs h
  · exact toneInv_move hc (toneMove_of_exec ht)
  · exact toneInv_of_foreign hc hi hr ht

/-! ### The time between two drives -/

theorem redriveInv_consume {last : Nat} {s : State} :
    RedriveInv last s.consume ↔ RedriveInv last s := by simp [RedriveInv]

/-- The bound of each phase but `TDRV`'s gives the bound of the next. -/
theorem redriveInv_move {last : Nat} {s t : State} (hinv : RedriveInv last s) (hpc : s.pcT ≠ 3)
    (h : ToneMove s t) : RedriveInv last t := by
  obtain ⟨driven, asleep, awake, waiting, ready⟩ := hinv
  cases h
  case arm pc => simpa [RedriveInv, pc, cycle_eq_add_one] using awake pc
  case take pc _ | timeOut pc _ _ =>
    obtain ⟨deadline, now⟩ := waiting pc
    simpa [RedriveInv, pc, cycle_eq_add_one] using now.trans deadline
  case advance pc _ | stay pc _ =>
    simpa [RedriveInv, pc, cycle_eq_add_one] using ready (.inl pc)
  case drive pc => exact absurd pc hpc
  case sleep pc => simpa [RedriveInv, pc, cycle_eq_add_one] using driven pc
  case wake pc =>
    obtain ⟨deadline, now⟩ := asleep pc
    simpa [RedriveInv, pc, cycle_eq_add_one] using now.trans deadline.le
  case held => exact ⟨driven, asleep, awake, waiting, ready⟩

/-- Time passes at the wait and at the sleep alone, and there not beyond the deadline. -/
theorem redriveInv_of_foreign {last : Nat} {i : Instr} {s t : State} (hinv : RedriveInv last s)
    (hm : s.params.maxProg = true) (hi : contextFor i ≠ .agent .toneSelector) (hr : i ≠ .rst)
    (h : exec i s = .next t) : RedriveInv last t := by
  have hpc : t.pcT = s.pcT := same_of_foreign (r := .pcT) (by decide) hi hr h
  have htmr : t.tmrT = s.tmrT := same_of_foreign (r := .tmrT) (by decide) hi hr h
  obtain ⟨hparams, -⟩ := settingKept_exec h
  rw [RedriveInv, hpc, htmr, hparams]
  obtain hnow | ⟨⟨held, -⟩, hnow⟩ := now_exec_of_maxProg hm hr h
  · rwa [hnow]
  · obtain ⟨-, asleep, -, waiting, -⟩ := hinv
    obtain ⟨pc, -, early⟩ | ⟨pc, early⟩ := held
    · obtain ⟨deadline, -⟩ := waiting pc
      simp [pc, hnow, deadline, Nat.succ_le_of_lt early]
    · obtain ⟨deadline, -⟩ := asleep pc
      simp [pc, hnow, ← deadline, Nat.succ_le_of_lt early]

/-- `TDRV` starts the bounds at its own tick. -/
theorem redriveInv_tdrv {s t : State} (pc : s.pcT = 3) (h : exec .tdrv s = .next t) :
    RedriveInv s.now t := by
  obtain rfl := Host.Outcome.next.inj h
  simp [RedriveInv, pc, cycle_eq_add_one]

/-- Settles O58: each phase of agent `T` hands its bound to the next, and time waits for it. -/
theorem buzzerIsRedrivenInTime : Obligations.BuzzerIsRedrivenInTime := by
  intro last s t hs hm hinv h
  refine ⟨onlyMoves_step hs h, params_step h, ?_⟩
  have hc := redriveInv_consume.mpr hinv
  split
  next hop =>
    obtain ⟨hat, ht⟩ := opAt_of_nextOp (a := .toneSelector) hs h rfl hop
    have pc : s.pcT = 3 := opT_injective hat
    obtain ⟨-, -, -, -, ready⟩ := hinv
    refine ⟨(ready (.inr pc)).trans (by omega), ?_⟩
    simpa using redriveInv_tdrv (by simpa using pc) ht
  next hop =>
    obtain ⟨hown, ht⟩ | ⟨i, -, hi, hr, ht⟩ := move_of_step .toneSelector hs h
    · refine redriveInv_move hc (fun pc => hop ?_) (toneMove_of_exec ht)
      rw [hown, opAt, ← s.consume_pcT, pc]
      rfl
    · exact redriveInv_of_foreign hc (by simpa using hm) hi hr ht

end Sys2Proof.Machine

/-! PROOFS. The invariants of the display (spec/44_display_mux.md R108, R111), and the invariants
after reset. -/

namespace Sys2Proof.Machine

/-! ### What agent `D` can do -/

/-- What agent `D` can do at its phase. -/
inductive DisplayMove (s : State) : State → Prop
  | blankFirst (pc : s.pcD = 0) : DisplayMove s (s.setSelect .blank).nextD
  | loadTens (pc : s.pcD = 1) :
      DisplayMove s ((s.readCounter .tens).showDigit (tensDigit s.cnt)).nextD
  | enableTens (pc : s.pcD = 2) : DisplayMove s (s.setSelect .tens).nextD
  | blankSecond (pc : s.pcD = 5) : DisplayMove s (s.setSelect .blank).nextD
  | loadUnits (pc : s.pcD = 6) :
      DisplayMove s ((s.readCounter .units).showDigit (unitsDigit (s.readCounter .units).val)).nextD
  | enableUnits (pc : s.pcD = 7) : DisplayMove s (s.setSelect .units).nextD
  | hold (pc : s.pcD = 3 ∨ s.pcD = 8) : DisplayMove s (s.armD tHold).nextD
  | wake (pc : s.pcD = 4 ∨ s.pcD = 9) (due : s.tmrD ≤ s.now) : DisplayMove s s.nextD
  | held (h : agentEnabled .display s = false) : DisplayMove s s

theorem displayMove_of_exec {s t : State} (h : exec (opD s.pcD) s = .next t) : DisplayMove s t := by
  cases he : agentEnabled .display s
  · obtain ⟨-, kept, -⟩ := exec_own (a := .display) h
    rw [kept he]
    exact .held he
  · rw [agentEnabled_eq, opAt] at he
    revert h he
    unfold opD
    split <;> intro h he <;> cases does_of_exec h
    case h_1.dblk pc => exact .blankFirst pc
    case h_2.dld pc => exact .loadTens pc
    case h_3.den pc => exact .enableTens pc
    case h_4.dhld pc => exact .hold (.inl pc)
    case h_5.dwake pc due => exact .wake (.inl pc) due
    case h_6.dblk pc => exact .blankSecond pc
    case h_7.dld pc => exact .loadUnits pc
    case h_8.den pc => exact .enableUnits pc
    case h_9.dhld pc => exact .hold (.inr pc)
    case h_10.dwake pc due => exact .wake (.inr pc) due
    all_goals exact absurd he (Bool.eq_false_iff.mp ‹_›)

/-! ### The order of the display events -/

theorem displayPhase_append (tr : List Event) (es : List Event) :
    displayPhase (tr ++ es) = es.foldl displayNext (displayPhase tr) := List.foldl_append

/-- Whether an event is one of the display (R35). -/
def Event.isDisplay : Event → Bool
  | .segSet _ => true
  | .digSet _ => true
  | _ => false

theorem displayNext_of_not_isDisplay {e : Event} (h : e.isDisplay = false) (p : Option (Fin 6)) :
    displayNext p e = p := by
  cases e with
  | segSet | digSet => cases h
  | _ =>
    unfold displayNext
    split <;> simp_all

theorem isDisplay_of_mem_emits {i : Instr} {s : State} (hi : contextFor i ≠ .agent .display)
    {e : Event} (he : e ∈ emits i s) : e.isDisplay = false := by
  cases i <;> grind [emits, Event.isDisplay, contextFor]

theorem displayPhase_of_foreign {i : Instr} {s t : State} (hi : contextFor i ≠ .agent .display)
    (hr : i ≠ .rst) (h : exec i s = .next t) : displayPhase t.trace = displayPhase s.trace := by
  rw [trace_exec h hr, displayPhase_append]
  calc (emits i s).foldl displayNext (displayPhase s.trace)
      = (emits i s).foldl (fun p _ => p) (displayPhase s.trace) :=
        List.foldl_ext _ _ _ fun p _ he =>
          displayNext_of_not_isDisplay (isDisplay_of_mem_emits hi he) p
    _ = displayPhase s.trace := List.foldl_fixed _

/-! ### Blanking -/

theorem blankingInv_consume {s : State} : BlankingInv s.consume ↔ BlankingInv s := by
  simp [BlankingInv]

theorem blankingInv_move {s t : State} (hinv : BlankingInv s) (h : DisplayMove s t) :
    BlankingInv t := by
  obtain ⟨dark, litTens, litUnits, first, tens, units, order⟩ := hinv
  cases h
  case blankFirst pc | blankSecond pc =>
    rw [pc] at order
    simp [BlankingInv, pc, cycle_eq_add_one, displayPhase_append, order, displayNext, phaseOf]
  case loadTens pc | loadUnits pc =>
    have off := dark (by simp [pc])
    rw [pc] at order
    simp [BlankingInv, pc, cycle_eq_add_one, displayPhase_append, order, displayNext, phaseOf, off]
  case enableTens pc =>
    rw [pc] at order
    simpa [BlankingInv, pc, cycle_eq_add_one, displayPhase_append, order, displayNext, phaseOf]
      using tens (.inl pc)
  case enableUnits pc =>
    rw [pc] at order
    simpa [BlankingInv, pc, cycle_eq_add_one, displayPhase_append, order, displayNext, phaseOf]
      using units (.inl pc)
  case hold pc | wake pc _ =>
    obtain pc | pc := pc
    · have lit := litTens (by simp [pc])
      rw [pc] at order
      simpa [BlankingInv, pc, cycle_eq_add_one, order, phaseOf, lit] using tens (.inr lit)
    · have lit := litUnits (by simp [pc])
      rw [pc] at order
      simpa [BlankingInv, pc, cycle_eq_add_one, order, phaseOf, lit] using units (.inr lit)
  case held => exact ⟨dark, litTens, litUnits, first, tens, units, order⟩

/-- Only a load changes the segments, and it stands between a blank and an enable. -/
theorem dark_of_seg_ne {s t : State} (hinv : BlankingInv s) (h : DisplayMove s t)
    (hne : t.seg ≠ s.seg) : s.dig = .blank ∧ t.dig = .blank := by
  obtain ⟨dark, -⟩ := hinv
  cases h
  case loadTens pc | loadUnits pc => exact ⟨dark (by simp [pc]), dark (by simp [pc])⟩
  all_goals exact absurd rfl hne

/-- What `BlankingInv` looks at: the registers of agent `D` but its deadline. -/
theorem display_of_foreign {i : Instr} {s t : State} (hi : contextFor i ≠ .agent .display)
    (hr : i ≠ .rst) (h : exec i s = .next t) :
    t.pcD = s.pcD ∧ t.dig = s.dig ∧ t.dgt = s.dgt ∧ t.val = s.val ∧ t.seg = s.seg := by
  have kept {r : Reg} (hown : r ∈ ownRegs .display) : r.same s t := same_of_foreign hown hi hr h
  exact ⟨kept (r := .pcD) (by decide), kept (r := .dig) (by decide), kept (r := .dgt) (by decide),
    kept (r := .val) (by decide), kept (r := .seg) (by decide)⟩

theorem blankingInv_of_foreign {i : Instr} {s t : State} (hinv : BlankingInv s)
    (hi : contextFor i ≠ .agent .display) (hr : i ≠ .rst) (h : exec i s = .next t) :
    BlankingInv t := by
  obtain ⟨hpc, hdig, hdgt, hval, hseg⟩ := display_of_foreign hi hr h
  obtain ⟨hparams, -⟩ := settingKept_exec h
  rw [BlankingInv, displayPhase_of_foreign hi hr h, hpc, hdig, hdgt, hval, hseg, hparams]
  exact hinv

/-- Settles O55: each phase of agent `D` finds the digit that the phase before it left. -/
theorem blankingIsKept : Obligations.BlankingIsKept := by
  intro s t hs hinv h
  have hc := blankingInv_consume.mpr hinv
  refine ⟨onlyMoves_step hs h, ?_⟩
  obtain ⟨-, ht⟩ | ⟨i, -, hi, hr, ht⟩ := move_of_step .display hs h
  · have move := displayMove_of_exec ht
    exact ⟨blankingInv_move hc move, by simpa using dark_of_seg_ne hc move⟩
  · obtain ⟨-, -, -, -, hseg⟩ := display_of_foreign hi hr ht
    exact ⟨blankingInv_of_foreign hc hi hr ht, fun hne => absurd (hseg.trans s.consume_seg) hne⟩

/-! ### The length of a frame -/

theorem frameInv_consume {start : Nat} {s : State} :
    FrameInv start s.consume ↔ FrameInv start s := by simp [FrameInv]

/-- The tick of each phase but the first gives the tick of the next. -/
theorem frameInv_move {start : Nat} {s t : State} (hinv : FrameInv start s) (hpc : s.pcD ≠ 0)
    (h : DisplayMove s t) : FrameInv start t := by
  obtain ⟨first, firstWindow, second, secondWindow, ended⟩ := hinv
  cases h
  case blankFirst pc => exact absurd pc hpc
  case loadTens pc | enableTens pc =>
    simpa [FrameInv, pc, cycle_eq_add_one] using first (by simp [pc])
  case blankSecond pc | loadUnits pc | enableUnits pc =>
    simpa [FrameInv, pc, cycle_eq_add_one] using second (by simp [pc])
  case hold pc =>
    obtain pc | pc := pc
    · simpa [FrameInv, pc, cycle_eq_add_one, tHold] using first (by simp [pc])
    · simpa [FrameInv, pc, cycle_eq_add_one, tHold] using second (by simp [pc])
  case wake pc due =>
    obtain pc | pc := pc
    · obtain ⟨deadline, late⟩ := firstWindow pc
      simpa [FrameInv, pc, cycle_eq_add_one, deadline] using late.antisymm due
    · obtain ⟨deadline, late⟩ := secondWindow pc
      simpa [FrameInv, pc, cycle_eq_add_one, deadline] using late.antisymm due
  case held => exact ⟨first, firstWindow, second, secondWindow, ended⟩

/-- Time passes inside the windows alone, and there not beyond the deadline. -/
theorem frameInv_of_foreign {start : Nat} {i : Instr} {s t : State} (hinv : FrameInv start s)
    (hm : s.params.maxProg = true) (hi : contextFor i ≠ .agent .display) (hr : i ≠ .rst)
    (h : exec i s = .next t) : FrameInv start t := by
  have hpc : t.pcD = s.pcD := same_of_foreign (r := .pcD) (by decide) hi hr h
  have htmr : t.tmrD = s.tmrD := same_of_foreign (r := .tmrD) (by decide) hi hr h
  rw [FrameInv, hpc, htmr]
  obtain hnow | ⟨⟨-, -, window, early⟩, hnow⟩ := now_exec_of_maxProg hm hr h
  · rwa [hnow]
  · obtain ⟨-, firstWindow, -, secondWindow, -⟩ := hinv
    obtain pc | pc := window
    · obtain ⟨deadline, -⟩ := firstWindow pc
      simp [pc, hnow, ← deadline, Nat.succ_le_of_lt early]
    · obtain ⟨deadline, -⟩ := secondWindow pc
      simp [pc, hnow, ← deadline, Nat.succ_le_of_lt early]

/-- The first `DBLK` of a frame starts the bounds at its own tick. -/
theorem frameInv_dblk {s t : State} (pc : s.pcD = 0) (h : exec .dblk s = .next t) :
    FrameInv s.now t := by
  obtain rfl := Host.Outcome.next.inj h
  simp [FrameInv, pc, cycle_eq_add_one]

/-- The same for a step, whoever asks for the word. -/
theorem frameInv_step_dblk {s t : State} (pc : s.pcD = 0) (hop : s.nextOp = some .dblk)
    (h : step s = .next t) : FrameInv s.now t := by
  obtain ⟨-, -, i, hi, -, ht⟩ := step_next h
  obtain rfl := Option.some.inj (hop.symm.trans hi)
  simpa using frameInv_dblk (by simpa using pc) ht

/-- Settles O59: each phase of agent `D` hands its tick to the next, and time waits for it. -/
theorem framesTakeTwoTicks : Obligations.FramesTakeTwoTicks := by
  refine ⟨fun s t => frameInv_step_dblk, fun start s t hs hm hinv h => ?_⟩
  refine ⟨onlyMoves_step hs h, params_step h, ?_⟩
  split
  next hop =>
    obtain ⟨pc, hop⟩ := hop
    obtain ⟨-, -, -, -, ended⟩ := hinv
    exact ⟨ended pc, frameInv_step_dblk pc hop h⟩
  next hop =>
    have hc := frameInv_consume.mpr hinv
    obtain ⟨hown, ht⟩ | ⟨i, -, hi, hr, ht⟩ := move_of_step .display hs h
    · refine frameInv_move hc (fun pc => hop ?_) (displayMove_of_exec ht)
      rw [s.consume_pcD] at pc
      exact ⟨pc, by rw [hown, opAt, pc]; rfl⟩
    · exact frameInv_of_foreign hc (by simpa using hm) hi hr ht

/-! ### After reset -/

/-- Settles O60: at reset every register is 0, the trace is empty and the buzzer undriven. -/
theorem invariantsHoldAfterReset : Obligations.InvariantsHoldAfterReset := by
  refine ⟨by simp [State.onlyMoves, State.reset], rangesInv_reset, rfl, ?_, ?_, ?_, ?_, ?_⟩
  · simp [ToneInv, State.reset, takeCount]
  · simp [BlankingInv, State.reset, displayPhase, phaseOf]
  · simp [CounterPaceInv, State.reset, incCount]
  · simp [CounterExactInv, State.reset, incCount]
  · simp [RedriveInv, State.reset]

end Sys2Proof.Machine

/-! PROOFS. Which operations a register has an influence on (spec/10_state.md R15). -/

namespace Sys2Proof.Machine

/-! ### States that agree but for one register

Writing equal values into a register of two such states keeps them in agreement, and so does
emitting equal events or a choice by the same condition. -/

/-- Two states agree on everything beside the registers. -/
def AgreeBeside (s t : State) : Prop :=
  t.trace = s.trace ∧ t.btn = s.btn ∧ t.params = s.params ∧ t.setupOk = s.setupOk ∧
    t.queue = s.queue ∧ t.choices = s.choices ∧ t.encResult = s.encResult

theorem AgreeBeside.emit {s s' : State} {e e' : Event} (h : AgreeBeside s s') (he : e' = e) :
    AgreeBeside (s.emit e) (s'.emit e') := by
  obtain ⟨trace, beside⟩ := h
  exact ⟨congrArg₂ (· ++ [·]) trace he, beside⟩

section Agree

variable {r : Reg} {s s' : State} (h : AgreeBut r s s')
include h

theorem AgreeBut.params_eq : s'.params = s.params := by
  obtain ⟨-, -, -, params, -⟩ := h
  exact params

/-- A register that an operation reads is not the one that it does not read. -/
theorem AgreeBut.read {i : Instr} (hi : i ∉ r.readers) (q : Reg) (hq : i ∈ q.readers) :
    q.same s s' := by
  obtain ⟨regs, -⟩ := h
  exact regs q (by rintro rfl; exact hi hq)

theorem AgreeBut.lift {t t' : State} (hreg : ∀ q : Reg, q.same s s' → q.same t t')
    (hbeside : AgreeBeside s s' → AgreeBeside t t') : AgreeBut r t t' := by
  obtain ⟨regs, beside⟩ := h
  exact ⟨fun q hq => hreg q (regs q hq), hbeside beside⟩

theorem AgreeBut.nextT : AgreeBut r s.nextT s'.nextT := by
  refine h.lift (fun q hq => ?_) id
  cases q
  case pcT => exact congrArg cycle hq
  all_goals exact hq

theorem AgreeBut.nextC : AgreeBut r s.nextC s'.nextC := by
  refine h.lift (fun q hq => ?_) id
  cases q
  case pcC => exact congrArg cycle hq
  all_goals exact hq

theorem AgreeBut.nextD : AgreeBut r s.nextD s'.nextD := by
  refine h.lift (fun q hq => ?_) id
  cases q
  case pcD => exact congrArg cycle hq
  all_goals exact hq

theorem AgreeBut.setLevel (b : Bool) :
    AgreeBut r { s with btnq := b, btn := b } { s' with btnq := b, btn := b } := by
  refine h.lift (fun q hq => ?_) ?_
  · cases q
    case btnq => rfl
    all_goals exact hq
  · rintro ⟨trace, -, beside⟩
    exact ⟨trace, rfl, beside⟩

theorem AgreeBut.signal : AgreeBut r s.signal s'.signal := by
  refine h.lift (fun q hq => ?_) (·.emit rfl)
  cases q
  case pend => rfl
  all_goals exact hq

theorem AgreeBut.takeSignal : AgreeBut r s.takeSignal s'.takeSignal := by
  refine h.lift (fun q hq => ?_) (·.emit rfl)
  cases q
  case pend | got => rfl
  all_goals exact hq

theorem AgreeBut.timeOut : AgreeBut r s.timeOut s'.timeOut := by
  refine h.lift (fun q hq => ?_) (·.emit rfl)
  cases q
  case got => rfl
  all_goals exact hq

theorem AgreeBut.setTidx {k k' : Fin 6} (hk : k' = k) :
    AgreeBut r { s with tidx := k } { s' with tidx := k' } := by
  refine h.lift (fun q hq => ?_) id
  cases q
  case tidx => exact hk
  all_goals exact hq

theorem AgreeBut.armT {n n' : Nat} (ht : s'.now = s.now) (hn : n' = n) :
    AgreeBut r (s.armT n) (s'.armT n') := by
  refine h.lift (fun q hq => ?_) id
  cases q
  case tmrT => exact congrArg₂ (· + ·) ht hn
  all_goals exact hq

theorem AgreeBut.armC (ht : s'.now = s.now) (n : Nat) : AgreeBut r (s.armC n) (s'.armC n) := by
  refine h.lift (fun q hq => ?_) id
  cases q
  case tmrC => exact congrArg (· + n) ht
  all_goals exact hq

theorem AgreeBut.armD (ht : s'.now = s.now) (n : Nat) : AgreeBut r (s.armD n) (s'.armD n) := by
  refine h.lift (fun q hq => ?_) id
  cases q
  case tmrD => exact congrArg (· + n) ht
  all_goals exact hq

theorem AgreeBut.presentTone {f f' : Hertz} {d d' : Nat} (hf : f' = f) (hd : d' = d) :
    AgreeBut r (s.presentTone f d) (s'.presentTone f' d') := by
  refine h.lift (fun q hq => ?_) (·.emit (congrArg₂ Event.buzzSet hf hd))
  cases q
  case buzf => exact hf
  case buzd => exact hd
  case buzv => rfl
  all_goals exact hq

theorem AgreeBut.setCount {v v' : Fin 100} (hv : v' = v) :
    AgreeBut r (s.setCount v) (s'.setCount v') := by
  refine h.lift (fun q hq => ?_) (·.emit (congrArg Event.inc hv))
  cases q
  case cnt => exact hv
  all_goals exact hq

theorem AgreeBut.setSelect (d : DigSel) : AgreeBut r (s.setSelect d) (s'.setSelect d) := by
  refine h.lift (fun q hq => ?_) (·.emit rfl)
  cases q
  case dig => rfl
  all_goals exact hq

theorem AgreeBut.readCounter {p : Position}
    (hv : (s'.readCounter p).val = (s.readCounter p).val) :
    AgreeBut r (s.readCounter p) (s'.readCounter p) := by
  refine h.lift (fun q hq => ?_) id
  cases q
  case val => exact hv
  all_goals exact hq

theorem AgreeBut.showDigit {d d' : DigitCode} (hd : d' = d) :
    AgreeBut r (s.showDigit d) (s'.showDigit d') := by
  have hseg : encode7 s'.params d' = encode7 s.params d := congrArg₂ encode7 h.params_eq hd
  refine h.lift (fun q hq => ?_) (·.emit (congrArg Event.segSet hseg))
  cases q
  case dgt => exact hd
  case seg => exact hseg
  all_goals exact hq

theorem AgreeBut.tick : AgreeBut r { s with now := s.now + 1 } { s' with now := s'.now + 1 } := by
  refine h.lift (fun q hq => ?_) id
  cases q
  case now => exact congrArg (· + 1) hq
  all_goals exact hq

theorem AgreeBut.setResult {x x' : Option Pattern} (hx : x' = x) :
    AgreeBut r { s with encResult := x } { s' with encResult := x' } := by
  refine h.lift (fun q hq => by cases q <;> exact hq) ?_
  rintro ⟨trace, btn, params, setup, queue, choices, -⟩
  exact ⟨trace, btn, params, setup, queue, choices, hx⟩

end Agree

theorem val_readCounter_congr {s s' : State} (p : Position) (hp : s'.params = s.params)
    (hcnt : s'.cnt = s.cnt) (hval : s'.val = s.val) :
    (s'.readCounter p).val = (s.readCounter p).val := by
  cases p <;> simp [hp, hcnt, hval]

theorem enabled_tick_of_not_maxProg {s : State} (hm : s.params.maxProg = false) :
    enabled .tick s = true := (enabled_tick_iff s).mpr (.inl hm)

theorem AgreeBut.exec_congr {r : Reg} {i : Instr} {s s' t t' : State} (h : AgreeBut r s s')
    (hrst : i ≠ .rst) (hi : i ∉ r.readers) (hm : i = .tick → s.params.maxProg = false)
    (ht : exec i s = .next t) (ht' : exec i s' = .next t') : AgreeBut r t t' := by
  have hp := h.params_eq
  have reads (q : Reg) (hq : i ∈ q.readers) := h.read hi q hq
  cases i <;> obtain rfl := Host.Outcome.next.inj ht <;> obtain rfl := Host.Outcome.next.inj ht'
  case enc d => exact h.setResult (congrArg (some <| encode7 · d) hp)
  case btn b =>
    have edge : fallingEdge s'.btnq b = fallingEdge s.btnq b :=
      congrArg (fallingEdge · b) (reads .btnq (by cases b <;> decide))
    exact (rel_ite edge h.signal h).setLevel b
  case sig => exact h.signal
  case wait => exact rel_ite (reads .pend (by decide)) h.takeSignal.nextT h
  case waitt =>
    have due := State.dueT_congr (reads .tmrT (by decide)) (reads .now (by decide))
    exact rel_ite (reads .pend (by decide)) h.takeSignal.nextT (rel_ite due h.timeOut.nextT h)
  case tarm => exact (h.armT (reads .now (by decide)) (congrArg (·.tPoll.ticks) hp)).nextT
  case tadv =>
    have index := h.setTidx (congrArg cycle (reads .tidx (by decide)))
    exact (rel_ite (reads .got (by decide)) index h).nextT
  case tdrv =>
    exact (h.presentTone (congrArg toneAt (reads .tidx (by decide))) (congrArg (·.duty) hp)).nextT
  case tslp => exact (h.armT (reads .now (by decide)) (congrArg (·.tTSleep) hp)).nextT
  case twake =>
    exact rel_ite (State.dueT_congr (reads .tmrT (by decide)) (reads .now (by decide))) h.nextT h
  case cinc => exact (h.setCount (congrArg cycle (reads .cnt (by decide)))).nextC
  case cslp => exact (h.armC (reads .now (by decide)) tCnt).nextC
  case cwake =>
    exact rel_ite (State.dueC_congr (reads .tmrC (by decide)) (reads .now (by decide))) h.nextC h
  case dblk => exact (h.setSelect .blank).nextD
  case dld p =>
    have value := val_readCounter_congr p hp (reads .cnt (by cases p <;> decide))
      (reads .val (by cases p <;> decide))
    exact ((h.readCounter value).showDigit (congrArg (digitOf p) value)).nextD
  case den p => exact (h.setSelect (selectOf p)).nextD
  case dhld => exact (h.armD (reads .now (by decide)) tHold).nextD
  case dwake =>
    exact rel_ite (State.dueD_congr (reads .tmrD (by decide)) (reads .now (by decide))) h.nextD h
  case tick =>
    have free := enabled_tick_of_not_maxProg (hm rfl)
    have free' := enabled_tick_of_not_maxProg ((congrArg (·.maxProg) hp).trans (hm rfl))
    exact rel_ite (free'.trans free.symm) h.tick h
  case rst => exact absurd rfl hrst

/-- Settles O45: every condition and every argument of an operation comes from the registers it
reads, the parameters and the registers it writes itself. -/
theorem onlyReadersDependOnARegister : Obligations.OnlyReadersDependOnARegister :=
  fun _ _ _ _ _ _ hrst hi hm h ht ht' => h.exec_congr hrst hi hm ht ht'

end Sys2Proof.Machine

/-! PROOFS. Several operations in a row: a signal until the wait that takes it (spec/20_memory.md
section 4), the two reads of a frame (spec/44_display_mux.md section 3), and the two orders of
operations of the two pipelines (spec/60_exceptions.md section 5). -/

namespace Sys2Proof.Machine

/-! ### A signal until its wait -/

/-- Settles O21: nothing but a wait or a reset empties the channel. -/
theorem signalsAreKeptUntilAWait : Obligations.SignalsAreKeptUntilAWait := by
  intro is s hi
  obtain ⟨u, hu⟩ := execAll_answers is s.signal
  obtain ⟨-, -, pend⟩ := postsOnly_execAll hi hu
  have hpend : u.pend = true := by simpa using pend
  exact ⟨u, hu, hpend, _, exec_waitt_of_pend hpend, rfl, rfl⟩

/-! ### The two reads of a frame -/

/-- The value read last and the parameters are the same in two states. -/
def ReadingKept (s t : State) : Prop := t.val = s.val ∧ t.params = s.params

theorem ReadingKept.trans {s t u : State} (h : ReadingKept s t) (h' : ReadingKept t u) :
    ReadingKept s u := by
  obtain ⟨val, params⟩ := h
  obtain ⟨val', params'⟩ := h'
  exact ⟨val'.trans val, params'.trans params⟩

/-- Between two reads the display keeps what the first has read (R15, R21). -/
theorem readingKept_exec {i : Instr} {s t : State}
    (hi : i ∉ [Instr.dld .tens, .dld .units, .rst]) (h : exec i s = .next t) :
    ReadingKept s t := by
  simp only [List.mem_cons, List.not_mem_nil, or_false, not_or] at hi
  obtain ⟨htens, hunits, hr⟩ := hi
  obtain ⟨params, -⟩ := settingKept_exec h
  have unread : i ∉ Reg.val.writers := by simp [Reg.writers, htens, hunits]
  exact ⟨onlyWritersChangeARegister .val i s t h hr unread, params⟩

theorem readingKept_execAll {is : List Instr} {s u : State}
    (hi : ∀ i ∈ is, i ∉ [Instr.dld .tens, .dld .units, .rst]) (h : execAll is s = .next u) :
    ReadingKept s u :=
  execAll_rel (r := ReadingKept) (fun _ => ⟨rfl, rfl⟩) ReadingKept.trans
    (fun i hm => readingKept_exec (hi i hm)) h

theorem dgt_exec_dld {p : Position} {s t : State} (h : exec (.dld p) s = .next t) :
    t.val = (s.readCounter p).val ∧ t.dgt = digitOf p t.val ∧ t.params = s.params := by
  obtain rfl := Host.Outcome.next.inj h
  exact ⟨rfl, rfl, rfl⟩

/-- Tens of a value and units of its successor are neither's digits exactly at a carry. -/
theorem digits_straddle_iff (v : Fin 100) :
    (10 * (tensDigit v).val + (unitsDigit (cycle v)).val ≠ v.val ∧
      10 * (tensDigit v).val + (unitsDigit (cycle v)).val ≠ (cycle v).val) ↔ v.val % 10 = 9 := by
  simp only [tensDigit_val, unitsDigit_val, cycle_val]
  omega

/-- Settles O38: the second read is of the counter then, or with `SNAPSHOT` of what the first one
left. -/
theorem framesMayStraddleAnIncrement : Obligations.FramesMayStraddleAnIncrement := by
  refine ⟨fun is s t u v ht hi hu hv => ?_, fun v w hw => hw ▸ digits_straddle_iff v⟩
  obtain ⟨first, tens, params⟩ := dgt_exec_dld ht
  obtain ⟨second, units, -⟩ := dgt_exec_dld hv
  obtain ⟨keptVal, keptParams⟩ := readingKept_execAll hi hu
  refine ⟨tens.trans (congrArg tensDigit first), ?_⟩
  rw [units, second, digitOf_units, State.readCounter_val, keptVal, first, readsCounter_units,
    keptParams, params]
  cases s.params.snapshot <;> simp

/-! ### The two orders of operations of the two pipelines -/

theorem SameTone.emits_congr {i : Instr} {s s' : State} (h : SameTone s s') (hi : i ∈ toneOps)
    (hs : SameTime s s') : emits i s' = emits i s := by
  obtain ⟨hnow, hparams⟩ := hs
  have hdue := h.dueT_eq hnow
  induction i, hi using toneOps_cases <;>
    simp only [emits, h.btnq_eq, h.pend_eq, h.tidx_eq, hdue, hparams]

theorem SameDisplay.emits_congr {i : Instr} {s s' : State} (h : SameDisplay s s')
    (hi : i ∈ displayOps) (hp : s'.params = s.params) : emits i s' = emits i s := by
  induction i, hi using displayOps_cases
  case dld p _ => simp only [emits, (h.readCounter hp p).val_eq, hp]
  all_goals simp only [emits, h.cnt_eq]

theorem SameTone.symm_trans {s t u : State} (h : SameTone s t) (h' : SameTone s u) :
    SameTone t u := by
  simp_all [SameTone]

theorem SameDisplay.symm_trans {s t u : State} (h : SameDisplay s t) (h' : SameDisplay s u) :
    SameDisplay t u := by
  simp_all [SameDisplay]

/-- What the pipelines share is the same in two states: time, the setting and the result of
`ENC`. -/
def SharedKept (s t : State) : Prop :=
  t.now = s.now ∧ SettingKept s t ∧ t.encResult = s.encResult

theorem SharedKept.trans {s t u : State} (h : SharedKept s t) (h' : SharedKept t u) :
    SharedKept s u := by simp_all [SharedKept, SettingKept]

theorem SharedKept.symm_trans {s t u : State} (h : SharedKept s t) (h' : SharedKept s u) :
    SharedKept t u := by simp_all [SharedKept, SettingKept]

theorem SharedKept.sameTime {s t : State} (h : SharedKept s t) : SameTime s t := by
  obtain ⟨now, ⟨params, -⟩, -⟩ := h
  exact ⟨now, params⟩

theorem pipelineOps_write_nothing_shared :
    ∀ i ∈ toneOps ++ displayOps, i ≠ .rst ∧ i ∉ Reg.now.writers ∧ ∀ d, i ≠ .enc d := by decide

theorem sharedKept_exec {i : Instr} {s t : State} (hi : i ∈ toneOps ++ displayOps)
    (h : exec i s = .next t) : SharedKept s t := by
  obtain ⟨hr, hnow, henc⟩ := pipelineOps_write_nothing_shared i hi
  exact ⟨onlyWritersChangeARegister .now i s t h hr hnow, settingKept_exec h,
    encResult_exec henc hr h⟩

theorem trace_exec_pipeline {i : Instr} {s t : State} (hi : i ∈ toneOps ++ displayOps)
    (h : exec i s = .next t) : t.trace = s.trace ++ emits i s := by
  obtain ⟨hr, -⟩ := pipelineOps_write_nothing_shared i hi
  exact trace_exec h hr

/-- Every register belongs to a pipeline or to what they share. -/
theorem sameButTrace_of_same {s t : State} (tone : SameTone s t) (display : SameDisplay s t)
    (shared : SharedKept s t) : SameButTrace s t := by
  obtain ⟨tidx, pend, got, btnq, btn, buzf, buzd, buzv, tmrT, pcT⟩ := tone
  obtain ⟨cnt, val, dgt, seg, dig, tmrC, tmrD, pcC, pcD⟩ := display
  obtain ⟨now, ⟨params, setup, queue, choices⟩, result⟩ := shared
  exact State.ext tidx cnt pend got btnq val dgt seg dig buzf buzd buzv now tmrT tmrC tmrD pcT pcC
    pcD rfl btn params setup queue choices result

/-- Settles O47: each pipeline does the same before and after an operation of the other, and emits
the same events. -/
theorem stepsOfThePipelinesCommute : Obligations.StepsOfThePipelinesCommute := by
  intro i j s hi hj
  have hi' : i ∈ toneOps ++ displayOps := List.mem_append_left _ hi
  have hj' : j ∈ toneOps ++ displayOps := List.mem_append_right _ hj
  obtain ⟨a, ha⟩ := exec_answers i s
  obtain ⟨b, hb⟩ := exec_answers j a
  obtain ⟨c, hc⟩ := exec_answers j s
  obtain ⟨d, hd⟩ := exec_answers i c
  have toneC := sameTone_of_mem_displayOps hj hc
  have displayA := sameDisplay_of_mem_toneOps hi ha
  have sharedA := sharedKept_exec hi' ha
  have sharedC := sharedKept_exec hj' hc
  refine ⟨a, b, c, d, ha, hb, hc, hd, ?_, ?_⟩
  · have tone := toneC.exec_congr hi sharedC.sameTime ha hd
    have display := displayA.exec_congr hj sharedA.sameTime hc hb
    have sharedB := sharedA.trans (sharedKept_exec hj' hb)
    have sharedD := sharedC.trans (sharedKept_exec hi' hd)
    exact sameButTrace_of_same (tone.symm_trans (sameTone_of_mem_displayOps hj hb))
      ((sameDisplay_of_mem_toneOps hi hd).symm_trans display) (sharedD.symm_trans sharedB)
  · obtain ⟨-, params⟩ := sharedA.sameTime
    rw [trace_exec_pipeline hj' hb, trace_exec_pipeline hi' ha, trace_exec_pipeline hi' hd,
      trace_exec_pipeline hj' hc, displayA.emits_congr hj params,
      toneC.emits_congr hi sharedC.sameTime, List.append_assoc, List.append_assoc]
    exact List.perm_append_comm.append_left s.trace

end Sys2Proof.Machine

/-! PROOFS. The agents come to rest (spec/45_time_base.md R115): at one tick each agent can go on
for a few moves only, and no other agent starts it again. -/

namespace Sys2Proof.Machine

/-! ### Moves left to an agent -/

/-- How many moves agent `T` can make at most while time stands still: to its wait, and once more
around its program when the wait ends at once. -/
def State.movesLeftT (s : State) : Nat :=
  match s.pcT with
  | 0 => if s.pend then 7 else 1
  | 1 => if s.pend || s.dueT then 6 else 0
  | 2 => if s.pend then 11 else 5
  | 3 => if s.pend then 10 else 4
  | 4 => if s.pend then 9 else 3
  | 5 => if s.pend then 8 else 2

/-- How many moves agent `C` can make at most while time stands still: to the end of its sleep. -/
def State.movesLeftC (s : State) : Nat :=
  match s.pcC with
  | 0 => 2
  | 1 => 1
  | 2 => if s.dueC then 3 else 0

/-- How many moves agent `D` can make at most while time stands still: to the end of a window. -/
def State.movesLeftD (s : State) : Nat :=
  match s.pcD with
  | 0 | 5 => 4
  | 1 | 6 => 3
  | 2 | 7 => 2
  | 3 | 8 => 1
  | 4 | 9 => if s.dueD then 5 else 0

/-- How many moves an agent can make at most while time stands still. -/
def State.movesLeft (s : State) : AgentId → Nat
  | .toneSelector => s.movesLeftT
  | .counter => s.movesLeftC
  | .display => s.movesLeftD

theorem movesLeft_le (s : State) :
    s.movesLeft .toneSelector ≤ 11 ∧ s.movesLeft .counter ≤ 3 ∧ s.movesLeft .display ≤ 5 := by
  refine ⟨?_, ?_, ?_⟩
  · simp only [State.movesLeft, State.movesLeftT]
    split <;> split <;> omega
  · simp only [State.movesLeft, State.movesLeftC]
    split <;> (try split) <;> omega
  · simp only [State.movesLeft, State.movesLeftD]
    split <;> (try split) <;> omega

theorem ticks_pos (p : PollTicks) : 0 < p.ticks := by cases p <;> decide

theorem movesLeftT_lt {s t : State} (he : agentEnabled .toneSelector s = true)
    (h : ToneMove s t) : t.movesLeftT < s.movesLeftT := by
  cases h
  case held hh => exact absurd he (Bool.eq_false_iff.mp hh)
  case arm pc =>
    have early : ¬ s.now + s.params.tPoll.ticks ≤ s.now := by
      have := ticks_pos s.params.tPoll
      omega
    cases hp : s.pend <;> simp [State.movesLeftT, pc, cycle_eq_add_one, hp, State.dueT, early]
  case take pc hp => simp [State.movesLeftT, pc, cycle_eq_add_one, hp]
  case timeOut pc hp due => simp [State.movesLeftT, pc, cycle_eq_add_one, hp, due]
  case advance pc _ | stay pc _ | drive pc | sleep pc | wake pc =>
    cases hp : s.pend <;> simp [State.movesLeftT, pc, cycle_eq_add_one, hp]

theorem movesLeftC_lt {s t : State} (he : agentEnabled .counter s = true)
    (h : CounterMove s t) : t.movesLeftC < s.movesLeftC := by
  cases h
  case held hh => exact absurd he (Bool.eq_false_iff.mp hh)
  case sleep pc => simp [State.movesLeftC, pc, cycle_eq_add_one, State.dueC, tCnt]
  case inc pc => simp [State.movesLeftC, pc, cycle_eq_add_one]
  case wake pc due => simp [State.movesLeftC, pc, cycle_eq_add_one, due]

theorem movesLeftD_lt {s t : State} (he : agentEnabled .display s = true)
    (h : DisplayMove s t) : t.movesLeftD < s.movesLeftD := by
  cases h
  case held hh => exact absurd he (Bool.eq_false_iff.mp hh)
  case hold pc =>
    obtain pc | pc := pc <;> simp [State.movesLeftD, pc, cycle_eq_add_one, State.dueD, tHold]
  case wake pc due =>
    obtain pc | pc := pc <;> simp [State.movesLeftD, pc, cycle_eq_add_one, due]
  all_goals simp [State.movesLeftD, ‹s.pcD = _›, cycle_eq_add_one]

theorem movesLeft_lt {a : AgentId} {s t : State} (he : agentEnabled a s = true)
    (h : exec (opAt a s) s = .next t) : t.movesLeft a < s.movesLeft a := by
  cases a with
  | toneSelector => exact movesLeftT_lt he (toneMove_of_exec h)
  | counter => exact movesLeftC_lt he (counterMove_of_exec h)
  | display => exact movesLeftD_lt he (displayMove_of_exec h)

/-! ### Moves of the agents, one after another -/

/-- From one state to another by the moves of a list of agents, each at its phase. -/
inductive Plays : List AgentId → State → State → Prop
  | nil {s : State} : Plays [] s s
  | cons {a : AgentId} {as : List AgentId} {s t u : State} (h : exec (opAt a s) s = .next t)
      (hu : Plays as t u) : Plays (a :: as) s u

theorem Plays.append {as bs : List AgentId} {s t u : State} (h : Plays as s t)
    (h' : Plays bs t u) : Plays (as ++ bs) s u := by
  induction h with
  | nil => exact h'
  | cons ht _ ih => exact .cons ht (ih h')

/-- A state with other requests in the queue. -/
def State.withQueue (s : State) (q : List Request) : State := { s with queue := q }

/-- No operation looks at the queue (log 3). -/
theorem exec_withQueue {i : Instr} {s t : State} (h : exec i s = .next t) (q : List Request) :
    exec i (s.withQueue q) = .next (t.withQueue q) := by
  obtain ⟨t', ht'⟩ := exec_answers i (s.withQueue q)
  suffices hq : t' = t.withQueue q by rw [ht', hq]
  cases i <;> obtain rfl := Host.Outcome.next.inj h <;> obtain rfl := Host.Outcome.next.inj ht'
  case btn b =>
    exact congrArg (fun u : State => { u with btnq := b, btn := b })
      (apply_ite (State.withQueue · q) (fallingEdge s.btnq b = true) s.takeInterrupt s).symm
  case tadv =>
    exact congrArg State.nextT
      (apply_ite (State.withQueue · q) (s.got = true) { s with tidx := cycle s.tidx } s).symm
  case wait | twake | cwake | dwake | tick =>
    exact rel_ite (r := fun u v => v = u.withQueue q) rfl rfl rfl
  case waitt =>
    exact rel_ite (r := fun u v => v = u.withQueue q) rfl rfl
      (rel_ite (r := fun u v => v = u.withQueue q) rfl rfl rfl)
  all_goals rfl

/-- A schedule of agents as requests. -/
def agentMoves (as : List AgentId) : List Request := as.map fun a => .move (.agent a)

theorem opAt_withQueue (a : AgentId) (s : State) (q : List Request) :
    opAt a (s.withQueue q) = opAt a s := by cases a <;> rfl

theorem run_succ {k : Nat} {s t : State} (h : step s = .next t) :
    Host.Core.run core (k + 1) s = Host.Core.run core k t := by
  have first : core.step s = .next t := h
  simp only [Host.Core.run, first]

/-- A step with an agent's move at the head of the queue executes the operation at its phase. -/
theorem step_withQueue_agent {a : AgentId} {s t : State} (hs : s.setupOk = true)
    (hr : RangesInv s) (ht : exec (opAt a s) s = .next t) (q : List Request) :
    step (s.withQueue (.move (.agent a) :: q)) = .next (t.withQueue q) := by
  have move := step_of_move (s := s.withQueue (.move (.agent a) :: q)) (m := .agent a) hs hr rfl
  rw [move, moveOp, opAt_withQueue]
  exact exec_withQueue ht q

/-- The machine with a schedule of agents queued makes their moves. -/
theorem run_of_plays {as : List AgentId} {s t : State} (h : Plays as s t) (hs : s.setupOk = true)
    (hr : RangesInv s) :
    Host.Core.run core as.length (s.withQueue (agentMoves as)) = .next (t.withQueue []) := by
  induction h with
  | nil => rfl
  | @cons a as s t u ht _ ih =>
    have first := step_withQueue_agent hs hr ht (agentMoves as)
    obtain ⟨-, setup, -⟩ := settingKept_exec ht
    exact (run_succ first).trans (ih (setup.trans hs) (rangesInv_exec hr ht))

/-! ### Coming to rest -/

/-- An agent comes to rest within the moves left to it. -/
theorem plays_to_rest (a : AgentId) {n : Nat} {s : State} (hn : s.movesLeft a ≤ n) :
    ∃ k ≤ n, ∃ t, Plays (List.replicate k a) s t ∧ agentEnabled a t = false := by
  induction n generalizing s with
  | zero =>
    refine ⟨0, le_rfl, s, .nil, Bool.eq_false_iff.mpr fun he => ?_⟩
    obtain ⟨t, ht⟩ := exec_answers (opAt a s) s
    have := movesLeft_lt he ht
    omega
  | succ n ih =>
    cases he : agentEnabled a s
    · exact ⟨0, Nat.zero_le _, s, .nil, he⟩
    · obtain ⟨t, ht⟩ := exec_answers (opAt a s) s
      have := movesLeft_lt he ht
      obtain ⟨k, hk, u, hu, rest⟩ := ih (s := t) (by omega)
      exact ⟨k + 1, by omega, u, .cons ht hu, rest⟩

theorem opAt_is_agents (a : AgentId) (s : State) :
    contextFor (opAt a s) ≠ .env ∧ opAt a s ≠ .rst := by
  have own := contextFor_opAt a s
  refine ⟨by simp [own], fun hr => ?_⟩
  rw [hr] at own
  cases own

theorem now_of_plays {as : List AgentId} {s t : State} (h : Plays as s t) : t.now = s.now := by
  induction h with
  | nil => rfl
  | @cons a as s t u ht _ ih =>
    obtain ⟨henv, -⟩ := opAt_is_agents a s
    exact ih.trans (now_exec henv ht)

/-- A held agent stays held while another one moves (R136). -/
theorem agentHeld_exec {a b : AgentId} {s t : State} (hab : b ≠ a)
    (h : exec (opAt b s) s = .next t) (held : agentEnabled a s = false) :
    agentEnabled a t = false := by
  obtain ⟨henv, hr⟩ := opAt_is_agents b s
  have hi : contextFor (opAt b s) ≠ .agent a := by simp [contextFor_opAt, hab]
  have hnow := now_exec henv h
  cases a with
  | toneSelector =>
    rw [agentEnabled_toneSelector_eq_false] at held ⊢
    have hpc : t.pcT = s.pcT := same_of_foreign (r := .pcT) (by decide) hi hr h
    have htmr : t.tmrT = s.tmrT := same_of_foreign (r := .tmrT) (by decide) hi hr h
    rwa [hnow, pend_exec henv hi h, hpc, htmr]
  | counter =>
    rw [agentEnabled_counter_eq_false] at held ⊢
    have hpc : t.pcC = s.pcC := same_of_foreign (r := .pcC) (by decide) hi hr h
    have htmr : t.tmrC = s.tmrC := same_of_foreign (r := .tmrC) (by decide) hi hr h
    rwa [hnow, hpc, htmr]
  | display =>
    rw [agentEnabled_display_eq_false] at held ⊢
    have hpc : t.pcD = s.pcD := same_of_foreign (r := .pcD) (by decide) hi hr h
    have htmr : t.tmrD = s.tmrD := same_of_foreign (r := .tmrD) (by decide) hi hr h
    rwa [hnow, hpc, htmr]

theorem agentHeld_of_plays {a : AgentId} {as : List AgentId} {s t : State} (h : Plays as s t)
    (ha : a ∉ as) (held : agentEnabled a s = false) : agentEnabled a t = false := by
  induction h with
  | nil => exact held
  | cons ht _ ih =>
    rw [List.mem_cons, not_or] at ha
    obtain ⟨hne, has⟩ := ha
    exact ih has (agentHeld_exec (Ne.symm hne) ht held)

/-- Settles O41: the agents come to rest one after another, and none wakes another. -/
theorem agentsAlwaysComeToRest : Obligations.AgentsAlwaysComeToRest := by
  intro s hs hr
  obtain ⟨leftT, -, -⟩ := movesLeft_le s
  obtain ⟨k, hk, t, playT, restT⟩ := plays_to_rest .toneSelector leftT
  obtain ⟨-, leftC, -⟩ := movesLeft_le t
  obtain ⟨l, hl, u, playC, restC⟩ := plays_to_rest .counter leftC
  obtain ⟨-, -, leftD⟩ := movesLeft_le u
  obtain ⟨m, hm, v, playD, restD⟩ := plays_to_rest .display leftD
  have play := (playT.append playC).append playD
  have restT' := agentHeld_of_plays (playC.append playD) (by simp) restT
  have restC' := agentHeld_of_plays playD (by simp) restC
  refine ⟨_, ?_, v.withQueue [], run_of_plays play hs hr, ?_, ?_⟩
  · simp only [List.length_append, List.length_replicate]
    omega
  · exact (allHeld_iff v).mp (by simp [State.allHeld, restT', restC', restD])
  · exact now_of_plays (t := v) play

end Sys2Proof.Machine
